-- ==== Sys2Proof/Word.lean ====
section
/-! DEFINITION. The words of the block: sample bytes, command, data and response words, and the raw
sample word, at the widths spec/00_scope.md rule R4 and spec/30_encoding.md rules R40, R44, R45, R50 give them. -/

namespace Sys2Proof

/-- One byte of a sample or a checksum (spec/00_scope.md section 5; the accumulator of the checksum has config.crcWidth bits). -/
abbrev Byte := BitVec 8

/-- A command word CMD[31:0] (R40; CMD_WIDTH of R4). -/
abbrev CmdWord := BitVec 32

/-- A data word: the DATA part of a response, and every host-visible register (R17; REG_WIDTH of R4). -/
abbrev DataWord := BitVec 32

/-- A response word RSP[39:0] (R50; RSP_WIDTH of R4). -/
abbrev RspWord := BitVec 40

/-- The 16-bit raw word of a sample (R70). -/
abbrev RawWord := BitVec 16

/-- The 14-bit measurement code, a raw word without its two zero bits (R71). -/
abbrev Code14 := BitVec 14

/-- CNT, the number of bytes the host's read returned (R44). -/
abbrev ByteCount := BitVec 2

/-- REG, a register number of RDREG (R45). -/
abbrev RegNum := BitVec 4

end Sys2Proof
end

