-- ==== Sys2Proof/Syntax.lean ====
section
/-! DEFINITION. The five commands of spec/30_encoding.md rule R46 as one inductive type, with the textual
form and the pseudo-instructions of rules R54 and R55. -/

namespace Sys2Proof

/-- A command of the block, one constructor per row of spec/opcode_table.json (R46). -/
inductive Instr where
  /-- CRCCHK b0, b1, b2 (format C, R42): check a checksum, R62. -/
  | crcchk (b0 b1 b2 : Byte)
  /-- MBEGIN (format N, R41): begin a measurement cycle, R90. -/
  | mbegin
  /-- TSAMP cnt, b0, b1, b2 (format S, R44): the temperature sample, R91. -/
  | tsamp (cnt : ByteCount) (b0 b1 b2 : Byte)
  /-- HSAMP cnt, b0, b1, b2 (format S, R44): the humidity sample, R92. -/
  | hsamp (cnt : ByteCount) (b0 b1 b2 : Byte)
  /-- RDREG reg (format R, R45): read one register, R110. -/
  | rdreg (reg : RegNum)
  deriving DecidableEq, Repr

/-- The mnemonic of a command's textual form (R54). -/
def Instr.mnemonic : Instr → String
  | .crcchk _ _ _ => "CRCCHK"
  | .mbegin => "MBEGIN"
  | .tsamp _ _ _ _ => "TSAMP"
  | .hsamp _ _ _ _ => "HSAMP"
  | .rdreg _ => "RDREG"

/-- The operands of a command's textual form, in field order from the most significant field down (R54). -/
def Instr.operands : Instr → List Nat
  | .crcchk b0 b1 b2 => [b0.toNat, b1.toNat, b2.toNat]
  | .mbegin => []
  | .tsamp cnt b0 b1 b2 => [cnt.toNat, b0.toNat, b1.toNat, b2.toNat]
  | .hsamp cnt b0 b1 b2 => [cnt.toNat, b0.toNat, b1.toNat, b2.toNat]
  | .rdreg reg => [reg.toNat]

/-- A command's textual form (R54): the mnemonic, then the operands separated by commas, here in decimal. -/
def Instr.text (i : Instr) : String :=
  match i.operands with
  | [] => i.mnemonic
  | ops => i.mnemonic ++ " " ++ ", ".intercalate (ops.map toString)

/-- RDSTAT, the pseudo-instruction for RDREG 0 (R55). -/
def Instr.rdstat : Instr := .rdreg 0

/-- RDT, the pseudo-instruction for RDREG 1 (R55). -/
def Instr.rdt : Instr := .rdreg 1

/-- RDH, the pseudo-instruction for RDREG 2 (R55). -/
def Instr.rdh : Instr := .rdreg 2

end Sys2Proof
end

