-- ==== Sys2Proof/WellFormed.lean ====
section
/-! DEFINITION. Which terms of Instr are commands of the block: the one check is RDREG's register number,
which spec/30_encoding.md rules R47 and R48 restrict. Every other operand is legal at every value of its width. -/

namespace Sys2Proof

/-- The register numbers RDREG may name: 0, 1, 2 and 8 to 15; 3 to 7 are reserved (R17, R35, R47). -/
def regReadable (reg : RegNum) : Bool :=
  decide (reg.toNat ≤ 2) || decide (8 ≤ reg.toNat)

/-- A term of Instr that some command word encodes (R47). -/
def Instr.wf : Instr → Bool
  | .crcchk _ _ _ => true
  | .mbegin => true
  | .tsamp _ _ _ _ => true
  | .hsamp _ _ _ _ => true
  | .rdreg reg => regReadable reg

end Sys2Proof
end

