-- ==== Sys2Proof/Decode.lean ====
section
/-! DEFINITION. Decoding a command word (spec/30_encoding.md rules R40 to R49), a total function of the word
alone, and the encoder written from the same formats. Each constructor's word, written out from the spec, is
checked in Tests/Slice0.lean. -/

namespace Sys2Proof

/-- Why a command word is illegal (R48). -/
inductive Illegal where
  /-- OP = 0x0 or 0x6 to 0xF: a reserved opcode. -/
  | reservedOpcode (op : BitVec 4)
  /-- A known opcode with a reserved bit that is not zero. -/
  | reservedBits (op : BitVec 4)
  /-- RDREG of a register number 3 to 7. -/
  | reservedRegister (reg : RegNum)
  deriving DecidableEq, Repr

/-- OP = CMD[31:28], in every format (R40). -/
def fieldOp (w : CmdWord) : BitVec 4 := w.extractLsb' 28 4

/-- CNT = CMD[27:26] of format S (R44). -/
def fieldCnt (w : CmdWord) : ByteCount := w.extractLsb' 26 2

/-- B0 = CMD[23:16] of formats C and S (R42, R44). -/
def fieldB0 (w : CmdWord) : Byte := w.extractLsb' 16 8

/-- B1 = CMD[15:8] of formats C and S (R42, R44). -/
def fieldB1 (w : CmdWord) : Byte := w.extractLsb' 8 8

/-- B2 = CMD[7:0] of formats C and S (R42, R44). -/
def fieldB2 (w : CmdWord) : Byte := w.extractLsb' 0 8

/-- REG = CMD[3:0] of format R (R45). -/
def fieldReg (w : CmdWord) : RegNum := w.extractLsb' 0 4

/-- CMD[27:24], reserved in format C (R42). -/
def reservedC (w : CmdWord) : BitVec 4 := w.extractLsb' 24 4

/-- CMD[27:0], reserved in format N (R41). -/
def reservedN (w : CmdWord) : BitVec 28 := w.extractLsb' 0 28

/-- CMD[25:24], reserved in format S (R44). -/
def reservedS (w : CmdWord) : BitVec 2 := w.extractLsb' 24 2

/-- CMD[27:4], reserved in format R (R45). -/
def reservedR (w : CmdWord) : BitVec 24 := w.extractLsb' 4 24

/-- `decode(w)` of R47: the command, or why the word is illegal (R48). It reads no state (R39). -/
def decode (w : CmdWord) : Except Illegal Instr :=
  if fieldOp w = 0x1 then
    if reservedC w = 0 then .ok (.crcchk (fieldB0 w) (fieldB1 w) (fieldB2 w))
    else .error (.reservedBits 0x1)
  else if fieldOp w = 0x2 then
    if reservedN w = 0 then .ok .mbegin else .error (.reservedBits 0x2)
  else if fieldOp w = 0x3 then
    if reservedS w = 0 then .ok (.tsamp (fieldCnt w) (fieldB0 w) (fieldB1 w) (fieldB2 w))
    else .error (.reservedBits 0x3)
  else if fieldOp w = 0x4 then
    if reservedS w = 0 then .ok (.hsamp (fieldCnt w) (fieldB0 w) (fieldB1 w) (fieldB2 w))
    else .error (.reservedBits 0x4)
  else if fieldOp w = 0x5 then
    if reservedR w = 0 then
      if regReadable (fieldReg w) then .ok (.rdreg (fieldReg w))
      else .error (.reservedRegister (fieldReg w))
    else .error (.reservedBits 0x5)
  else .error (.reservedOpcode (fieldOp w))

/-- The word of a command, its fields in the order of its format (R41, R42, R44, R45, R46). -/
def encode : Instr → CmdWord
  | .crcchk b0 b1 b2 => 0x1#4 ++ 0#4 ++ b0 ++ b1 ++ b2
  | .mbegin => 0x2#4 ++ 0#28
  | .tsamp cnt b0 b1 b2 => 0x3#4 ++ cnt ++ 0#2 ++ b0 ++ b1 ++ b2
  | .hsamp cnt b0 b1 b2 => 0x4#4 ++ cnt ++ 0#2 ++ b0 ++ b1 ++ b2
  | .rdreg reg => 0x5#4 ++ 0#24 ++ reg

/-- The match column of R46's table. -/
def rowMatch : Instr → CmdWord
  | .crcchk _ _ _ => 0x10000000
  | .mbegin => 0x20000000
  | .tsamp _ _ _ _ => 0x30000000
  | .hsamp _ _ _ _ => 0x40000000
  | .rdreg _ => 0x50000000

/-- The mask column of R46's table. -/
def rowMask : Instr → CmdWord
  | .crcchk _ _ _ => 0xFF000000
  | .mbegin => 0xFFFFFFFF
  | .tsamp _ _ _ _ => 0xF3000000
  | .hsamp _ _ _ _ => 0xF3000000
  | .rdreg _ => 0xFFFFFFF0

/-- The command word whose low `nbits` bits are those of `w`, as spec/opcode_table.json numbers them. The
command word is one 32-bit value, so no byte order enters (R32). -/
def tableWord (nbits w : Nat) : CmdWord := BitVec.ofNat 32 (w % 2 ^ nbits)

/-- What the decoder reads from an instruction of `nbits` bits `w`; a command is one 32-bit word and never
longer (R40). -/
def decodeTableWord (nbits w : Nat) : Option Instr :=
  if nbits ≤ 32 then (decode (tableWord nbits w)).toOption else none

end Sys2Proof
end

