-- ==== Sys2Proof/Config.lean ====
section
/-! DEFINITION. The parameters of the block (spec/00_scope.md rule R4, 92_eei_decisions.md D28): every
document literal and every scale is a named field with the spec's value as its default, so that an audit of the
literals changes a field and no rule. Decimal literals are held exactly, as integers in hundredths of their unit.
The block has no free value: no result of a command is left undefined. -/

namespace Sys2Proof

/-- The parameter table of R4, every document literal a field. CMD_WIDTH, RSP_WIDTH and REG_WIDTH, the spec's own, are
the types of Word.lean; LATENCY has no place in a model without time (R149). -/
structure Config where
  /-- CRC_WIDTH (document literal): the bits of the accumulator. -/
  crcWidth : Nat := 8
  /-- CRC_POLY (document literal). -/
  crcPoly : BitVec crcWidth := 0x31
  /-- CRC_INIT (document literal; C4 of 90_conflicts.md: 0x00, whatever the family name suggests). -/
  crcInit : BitVec crcWidth := 0x00
  /-- CRC_REFIN (document literal): are the input bytes reflected? -/
  crcRefIn : Bool := false
  /-- CRC_REFOUT (document literal): is the result reflected? -/
  crcRefOut : Bool := false
  /-- CRC_XOROUT (derived): the final XOR. -/
  crcXorOut : BitVec crcWidth := 0x00
  /-- CRC_NBYTES (document literal): the data bytes the checksum covers. -/
  crcNbytes : Nat := 2
  /-- STATUS_MASK (document literal), applied to the low data byte before conversion. -/
  statusMask : Byte := 0xFC
  /-- SAMPLE_BYTES (document literal): the bytes of a complete sample. -/
  sampleBytes : Nat := 3
  /-- T_OFFSET, -46.85 degC (document literal), in hundredths. -/
  tOffset : Int := -4685
  /-- T_SPAN, 175.72 degC (document literal), in hundredths. -/
  tSpan : Int := 17572
  /-- H_OFFSET, -6.0 %RH (document literal), in hundredths. -/
  hOffset : Int := -600
  /-- H_SPAN, 125.0 %RH (document literal), in hundredths. -/
  hSpan : Int := 12500
  /-- RAW_DIV (document literal). -/
  rawDiv : Int := 65536
  /-- COMP_REF, 25.0 degC (document literal), in hundredths. -/
  compRef : Int := 2500
  /-- COMP_COEFF, -0.15 %RH per degC (document literal), in hundredths. -/
  compCoeff : Int := -15
  /-- H_MIN, 0.0 %RH (document literal), in hundredths. -/
  hMin : Int := 0
  /-- H_MAX, 100.0 %RH (document literal), in hundredths. -/
  hMax : Int := 10000
  /-- SCALE_T, counts per degC (D8). -/
  scaleT : Int := 6553600
  /-- SCALE_H, counts per %RH (D9). -/
  scaleH : Int := 8192000
  deriving DecidableEq, Repr

/-- The block's parameters: every field at the value R4 gives it. None is configurable at run time. -/
def config : Config := {}

end Sys2Proof
end

