-- ==== Sys2Proof/Machine/Crc.lean ====
section
/-! DEFINITION. The CRC-8 validator (spec/40_crc8.md rules R60 and R61): the bit-serial rule, over the parameters
of spec/00_scope.md rule R4. The accumulator is a value of the computation, not a piece of state (R21). -/

namespace Sys2Proof.Machine

/-- One iteration of R60 on an accumulator of `w` bits: test the high bit, shift left keeping `w` bits, XOR the
polynomial if the bit was 1. -/
def crcIterate {w : Nat} (poly acc : BitVec w) : BitVec w :=
  if acc.msb then (acc <<< 1) ^^^ poly else acc <<< 1

/-- `n` iterations of R60. -/
def crcIterations {w : Nat} (poly : BitVec w) : Nat → BitVec w → BitVec w
  | 0, acc => acc
  | n + 1, acc => crcIterations poly n (crcIterate poly acc)

/-- A word in reversed bit order where a reflection parameter asks for it (CRC_REFIN, CRC_REFOUT of R4). -/
def reflectIf {w : Nat} (reflected : Bool) (b : BitVec w) : BitVec w :=
  if reflected then b.reverse else b

/-- One input byte of R60: XOR it into the accumulator, its most significant bit at the accumulator's (MSB-first,
notes/assumptions/7.md), then one iteration for each of the byte's eight bits. -/
def crcByte {w : Nat} (reflected : Bool) (poly acc : BitVec w) (b : Byte) : BitVec w :=
  crcIterations poly 8 (acc ^^^ (reflectIf reflected b).setWidth w <<< (w - 8))

/-- The checksum of a list of bytes under the parameters `c` (R4, R60): CRC_WIDTH bits, from CRC_INIT, with CRC_REFOUT
and CRC_XOROUT applied to the accumulator at the end. -/
def crcOfBytes (c : Config) (bytes : List Byte) : BitVec c.crcWidth :=
  reflectIf c.crcRefOut (bytes.foldl (crcByte c.crcRefIn c.crcPoly) c.crcInit) ^^^ c.crcXorOut

/-- `CRC8(b0, b1)` (R60): the checksum of the sample's first CRC_NBYTES bytes, `b0` first, in the one byte that a sample
gives its checksum. -/
def crc8 (b0 b1 : Byte) : Byte := (crcOfBytes config ([b0, b1].take config.crcNbytes)).setWidth 8

/-- `CRC_OK(b0, b1, b2)` (R61): all eight bits equal, over the data bytes as received, status bits included (D23). -/
def crcOk (b0 b1 b2 : Byte) : Bool := decide (crc8 b0 b1 = b2)

end Sys2Proof.Machine
end

