-- ==== Sys2Proof/Machine/Constants.lean ====
section
/-! DEFINITION. The derived constants of spec/00_scope.md rule R4, by the formulas of its parameter table, and
the table KROM of spec/10_state.md rule R16 (spec/41_formula_engine.md rule R82). The divisions are exact at the
default parameters; Laws/Constants.lean gives every value. -/

namespace Sys2Proof.Machine

/-- K_T_MUL = T_SPAN x SCALE_T / RAW_DIV (R4, R72). -/
def kTMul : Int := config.tSpan * config.scaleT / (100 * config.rawDiv)

/-- K_T_OFF = 46.85 x SCALE_T, the magnitude of T_OFFSET in counts (R4, R72). -/
def kTOff : Int := -config.tOffset * config.scaleT / 100

/-- K_H_MUL = H_SPAN x SCALE_H / RAW_DIV (R4, R74). -/
def kHMul : Int := config.hSpan * config.scaleH / (100 * config.rawDiv)

/-- K_H_OFF = 6.0 x SCALE_H, the magnitude of H_OFFSET in counts (R4, R74). -/
def kHOff : Int := -config.hOffset * config.scaleH / 100

/-- K_C_SHIFT: the compensation ratio 0.15 x SCALE_H / SCALE_T is K_C_NUM / 2^K_C_SHIFT (R4, R75). -/
def kCShift : Nat := 4

/-- K_C_NUM = 0.15 x SCALE_H / SCALE_T x 2^K_C_SHIFT (R4, R75). -/
def kCNum : Int := -config.compCoeff * config.scaleH * 2 ^ kCShift / (100 * config.scaleT)

/-- K_C_OFF = 0.15 x 25.0 x SCALE_H (R4, R75). -/
def kCOff : Int := -config.compCoeff * config.compRef * config.scaleH / 10000

/-- The lower clamp bound in counts: H_MIN x SCALE_H (R4, R77). -/
def kHMin : Int := config.hMin * config.scaleH / 100

/-- K_H_MAX = 100.0 x SCALE_H, the upper clamp bound in counts (R4, R77). -/
def kHMax : Int := config.hMax * config.scaleH / 100

/-- The step of HCORR_LUT from one temperature code to the next (R76): K_C_NUM x (4 x K_T_MUL / 2^K_C_SHIFT). -/
def kLutMul : Int := kCNum * (4 * kTMul / 2 ^ kCShift)

/-- The magnitude of HCORR_LUT[0] (R76): K_C_NUM x (K_T_OFF / 2^K_C_SHIFT) + K_C_OFF. -/
def kLutOff : Int := kCNum * (kTOff / 2 ^ kCShift) + kCOff

/-- KROM[0..7] (R16): the coefficients of the formula engine and the two scales. -/
def kromEntry : Fin 8 → Int
  | 0 => kTMul
  | 1 => kTOff
  | 2 => kHMul
  | 3 => kHOff
  | 4 => kCOff
  | 5 => kHMax
  | 6 => config.scaleT
  | 7 => config.scaleH

/-- KROM[i] as the 32-bit unsigned constant a host reads (R16). -/
def krom (i : Fin 8) : DataWord := BitVec.ofInt 32 (kromEntry i)

end Sys2Proof.Machine
end

