-- ==== Sys2Proof/Machine/State.lean ====
section
/-! DEFINITION. The state of the block as plain data: the five items of spec/10_state.md rule R10, what stands
at the two ports (spec/70_reset_and_hazards.md rule R144), and the host's side of the ports, which a
deterministic step must read from data. No relation between the fields is built into the types (after R14);
Safety.lean states them and every step keeps them. -/

namespace Sys2Proof.Machine

/-- PHASE: where the block stands in a measurement cycle (R11). Three values; the code 3 does not exist (U9). -/
inductive Phase where
  /-- IDLE (0): no cycle is open. -/
  | idle
  /-- WANT_T (1): a cycle was begun, the temperature sample is awaited. -/
  | wantT
  /-- WANT_H (2): the temperature sample was accepted, the humidity sample is awaited. -/
  | wantH
  deriving DecidableEq, Repr

/-- What the host does at the block's ports and its reset input (R140, R144). The MODEL's own type: DESIGN
CHOICE, notes/assumptions/1.md. -/
inductive HostAction where
  /-- Present a command word; it is accepted when the block holds no command. -/
  | issue (w : CmdWord)
  /-- Take the response of the command the block holds. -/
  | take
  /-- Assert the reset input and release it. -/
  | reset
  deriving DecidableEq, Repr

/-- The state. `phase`, `tv`, `hv`, `tFx`, `hFx` are the architectural state, exactly five items (R10). -/
structure State where
  /-- PHASE (R11). -/
  phase : Phase
  /-- TV: T_FX holds a value (R12, R20). -/
  tv : Bool
  /-- HV: H_FX holds a value (R13, R20). -/
  hv : Bool
  /-- T_FX: `none`, or the temperature in counts of 1/6,553,600 degC, a signed 32-bit integer (R12). -/
  tFx : Option DataWord
  /-- H_FX: `none`, or the relative humidity in counts of 1/8,192,000 %RH, an unsigned integer in a 32-bit
  register (R13). -/
  hFx : Option DataWord
  /-- The command in the block: accepted, its response not yet produced (R140, R144). -/
  cmd : Option CmdWord
  /-- The response port: produced and not yet taken by the host (R144). -/
  rsp : Option RspWord
  /-- The host's actions still to come, the next one first. The MODEL's own field (notes/assumptions/1.md). -/
  host : List HostAction
  /-- The responses the host has taken, oldest first: the block's output. The MODEL's own field, which no
  command reads (notes/assumptions/2.md). -/
  taken : List RspWord
  deriving DecidableEq, Repr

/-- Reasons for a fault: none. The block has no trap (R120), nothing in it is stuck and no input makes it hang
(R129, R148, 93_implementation_defined.md part 1); an error is an answer. No one raises one, which is safe. -/
inductive Fault where
  deriving DecidableEq, Repr

/-- Reasons for a refusal by the model. -/
inductive Refusal where
  /-- An instruction that has no meaning yet, by its mnemonic. Raised by no arm of exec: every command has its
  meaning. Safe: the model would stop where the block goes on. -/
  | notModelled (mnemonic : String)
  deriving DecidableEq, Repr

/-- The block right after reset (R22, R140): IDLE, no readings, no command and no response, and a host that does
nothing (notes/assumptions/1.md, 2.md, 4.md). -/
def State.reset : State where
  phase := .idle
  tv := false
  hv := false
  tFx := none
  hFx := none
  cmd := none
  rsp := none
  host := []
  taken := []

end Sys2Proof.Machine
end

