-- ==== Sys2Proof/Machine/Flags.lean ====
section
/-! DEFINITION. The status flags and every view of them: the error codes, the snapshot of PHASE, HV and TV that
every response carries, the STATUS register, and the response word (spec/10_state.md rules R11, R15, R20;
spec/30_encoding.md rules R50 to R52). -/

namespace Sys2Proof.Machine

/-- The error codes the block produces (R52, R121 to R125); 5, 6 and 7 have no constructor (U8). -/
inductive ErrCode where
  /-- NONE (0): success, and the only code that goes with OK = 1 (R125). -/
  | noError
  /-- BUS (1): the sample is not three bytes (R121). -/
  | bus
  /-- CRC (2): the checksum does not match (R122). -/
  | crc
  /-- SEQ (3): a sample command outside its phase (R123). -/
  | seq
  /-- ILL (4): an illegal command word (R124). -/
  | ill
  deriving DecidableEq, Repr

/-- The 3-bit code ERR (R52). -/
def ErrCode.code : ErrCode → BitVec 3
  | .noError => 0
  | .bus => 1
  | .crc => 2
  | .seq => 3
  | .ill => 4

/-- The error a host reads from a 3-bit code; 5, 6 and 7 are not this block's (R125, U8). -/
def errOfCode (c : BitVec 3) : Option ErrCode :=
  if c = 0 then some .noError
  else if c = 1 then some .bus
  else if c = 2 then some .crc
  else if c = 3 then some .seq
  else if c = 4 then some .ill
  else none

/-- The 2-bit code of PHASE (R11). -/
def Phase.code : Phase → BitVec 2
  | .idle => 0
  | .wantT => 1
  | .wantH => 2

/-- PHASE, HV, TV as four bits: ST[3:0] of every response (R50) and bits 3:0 of STATUS (R15). -/
def stateBits (s : State) : BitVec 4 :=
  s.phase.code ++ BitVec.ofBool s.hv ++ BitVec.ofBool s.tv

/-- STATUS, register 0: bits 31:4 are zero (R15). -/
def statusWord (s : State) : DataWord := 0#28 ++ stateBits s

/-- ST = RSP[39:32]: OK, ERR, and the state bits of `s`, the state after the command (R50). -/
def statusByte (ok : Bool) (err : ErrCode) (s : State) : Byte :=
  BitVec.ofBool ok ++ err.code ++ stateBits s

/-- The response word (R50): ST above DATA. -/
def responseWord (ok : Bool) (err : ErrCode) (data : DataWord) (s : State) : RspWord :=
  statusByte ok err s ++ data

/-- ST = RSP[39:32] as a host reads it (R50). -/
def rspStatus (r : RspWord) : Byte := r.extractLsb' 32 8

/-- OK = RSP[39] as a host reads it (R50, R51). -/
def rspOk (r : RspWord) : Bool := r.getLsbD 39

/-- ERR = RSP[38:36] as a host reads it (R50, R52). -/
def rspErr (r : RspWord) : BitVec 3 := r.extractLsb' 36 3

/-- The snapshot RSP[35:32] of PHASE, HV and TV as a host reads it (R50). -/
def rspState (r : RspWord) : BitVec 4 := r.extractLsb' 32 4

/-- DATA = RSP[31:0] as a host reads it (R50). -/
def rspData (r : RspWord) : DataWord := r.extractLsb' 0 32

end Sys2Proof.Machine
end

