-- ==== Sys2Proof/Machine/Operands.lean ====
section
/-! DEFINITION. What the commands' operands name: the register a number of RDREG selects and its content R[n]
(spec/10_state.md rule R17, spec/20_memory.md rule R35), the byte count of a sample, and the 32-bit patterns of
integers (spec/00_scope.md section 5). -/

namespace Sys2Proof.Machine

/-- `sext_32(v)`: the 32-bit two's-complement pattern of a signed integer (spec/00_scope.md section 5). -/
def sext32 (v : Int) : DataWord := BitVec.ofInt 32 v

/-- `zext_32(v)`: an unsigned value in 32 bits (spec/00_scope.md section 5). -/
def zext32 (v : Nat) : DataWord := BitVec.ofNat 32 v

/-- The host-visible registers (R17). -/
inductive Reg where
  /-- Register 0, STATUS (R15). -/
  | status
  /-- Register 1, T_FX. -/
  | tFx
  /-- Register 2, H_FX. -/
  | hFx
  /-- Registers 8 to 15, KROM[0] to KROM[7] (R16). -/
  | krom (i : Fin 8)
  deriving DecidableEq, Repr

/-- The name of a register in the textual form of RDREG (spec/30_encoding.md rule R54). -/
def Reg.name : Reg → String
  | .status => "STATUS"
  | .tFx => "T_FX"
  | .hFx => "H_FX"
  | .krom i => "KROM" ++ toString i.val

/-- The register a number names; 3 to 7 name nothing (R17, R35). -/
def regOf (n : RegNum) : Option Reg :=
  if n = 0 then some .status
  else if n = 1 then some .tFx
  else if n = 2 then some .hFx
  else if 8 ≤ n.toNat then some (.krom (Fin.ofNat 8 (n.toNat - 8)))
  else none

/-- The content `R[n]` of a register (R17, R110): a reading that is `none` reads as 0. -/
def readReg (r : Reg) (s : State) : DataWord :=
  match r with
  | .status => statusWord s
  | .tFx => s.tFx.getD 0
  | .hFx => s.hFx.getD 0
  | .krom i => krom i

/-- CNT is the number of bytes of a complete sample (R91, R92; SAMPLE_BYTES of R4). -/
def sampleComplete (cnt : ByteCount) : Bool := decide (cnt.toNat = config.sampleBytes)

end Sys2Proof.Machine
end

