-- ==== Sys2Proof/Machine/Ops.lean ====
section
/-! DEFINITION. The named operations over the state: writing the five items, producing a response, raising an
error (the block's only exception: an answer, spec/60_exceptions.md rule R120), the reset input, and the
handshake at the two ports (spec/70_reset_and_hazards.md rules R140 and R144). -/

namespace Sys2Proof.Machine

/-- PHASE <- p. -/
def State.setPhase (p : Phase) (s : State) : State := { s with phase := p }

/-- T_FX <- some(v) ; TV <- 1 (R91). -/
def State.storeT (v : DataWord) (s : State) : State := { s with tFx := some v, tv := true }

/-- TV <- 0 ; T_FX <- none (R90 to R92). -/
def State.clearT (s : State) : State := { s with tFx := none, tv := false }

/-- H_FX <- some(v) ; HV <- 1 (R92). -/
def State.storeH (v : DataWord) (s : State) : State := { s with hFx := some v, hv := true }

/-- HV <- 0 ; H_FX <- none (R90, R92). -/
def State.clearH (s : State) : State := { s with hFx := none, hv := false }

/-- `respond(ok, err, data)` (R50): the command in the block is done and its one response stands at the response
port, with the snapshot of the state after the command. -/
def respond (ok : Bool) (err : ErrCode) (data : DataWord) (s : State) : State :=
  { s with cmd := none, rsp := some (responseWord ok err data s) }

/-- `respond(1, NONE, data)`: a command that succeeds. -/
def succeed (data : DataWord) (s : State) : Host.Outcome State Fault Refusal :=
  .next (respond true .noError data s)

/-- `raise <Error>` (spec/00_scope.md section 6, R120): respond(0, code, 0) after the state changes the rule
lists. It transfers no control, saves nothing and changes no mode. -/
def raise (err : ErrCode) (s : State) : Host.Outcome State Fault Refusal :=
  .next (respond false err 0 s)

/-- A CRC failure that still carries the computed checksum: CRCCHK's failure answer (R62). -/
def raiseCrcWith (data : DataWord) (s : State) : Host.Outcome State Fault Refusal :=
  .next (respond false .crc data s)

/-- The reset input asserted (R140): the five items take the values of R22, the command in the block is
discarded without a response, and the response port is empty (notes/assumptions/4.md). The host's side stays. -/
def resetBlock (s : State) : State :=
  { State.reset with host := s.host, taken := s.taken }

/-- The host's next action is to assert reset. -/
def resetAsserted (s : State) : Bool :=
  match s.host with
  | .reset :: _ => true
  | _ => false

/-- The host's next action is over. -/
def State.hostDone (s : State) : State := { s with host := s.host.tail }

/-- The host takes the response at the response port, if one stands there (R144). -/
def State.takeResponse (s : State) : State := { s with rsp := none, taken := s.taken ++ s.rsp.toList }

/-- The command port accepts a word (R144). -/
def State.accept (w : CmdWord) (s : State) : State := { s with cmd := some w }

/-- The handshake while the block executes no command (R144, R38). The block holds a command until its response
has been taken: a word presented before that is not accepted, the host takes the response first and its word waits
at the port. With no host action the block is idle and keeps its state (R133). -/
def portStep (s : State) : State :=
  match s.host, s.rsp with
  | .issue _ :: _, some _ => s.takeResponse
  | .issue w :: _, none => (s.accept w).hostDone
  | .take :: _, _ => s.takeResponse.hostDone
  | .reset :: _, _ => (resetBlock s).hostDone
  | [], _ => s

/-- The host's actions after a reset that is asserted now: those that follow it. -/
def afterResets : List HostAction → List HostAction
  | .reset :: rest => afterResets rest
  | acts => acts

/-- `s` with the command word `w` accepted and about to be executed, whatever the host does next short of a reset
asserted before it. -/
def loadCommand (w : CmdWord) (s : State) : State :=
  { s with cmd := some w, rsp := none, host := afterResets s.host }

end Sys2Proof.Machine
end

