-- ==== Sys2Proof/Machine/CrcCheck.lean ====
section
/-! DEFINITION. The meaning of CRCCHK (spec/40_crc8.md rule R62). -/

namespace Sys2Proof.Machine

/-- CRCCHK b0, b1, b2 (R62): OK or CRC, with the computed checksum in DATA[7:0] on both outcomes. It writes none of
the five items. -/
def execCrcchk (b0 b1 b2 : Byte) (s : State) : Host.Outcome State Fault Refusal :=
  if crcOk b0 b1 b2 then succeed (zext32 (crc8 b0 b1).toNat) s
  else raiseCrcWith (zext32 (crc8 b0 b1).toNat) s

end Sys2Proof.Machine
end

