-- ==== Sys2Proof/Machine/Formula.lean ====
section
/-! DEFINITION. The formula engine (spec/41_formula_engine.md rules R70 to R78): pure integer functions, exact,
with no rounding (R80). -/

namespace Sys2Proof.Machine

/-- `RAW16(b0, b1) = (b0 << 8) | (b1 & STATUS_MASK)` (R70). -/
def raw16 (b0 b1 : Byte) : RawWord :=
  (b0.setWidth 16 <<< 8) ||| (b1 &&& config.statusMask).setWidth 16

/-- `CODE14(raw) = raw[15:2]` (R71). -/
def code14 (raw : RawWord) : Code14 := raw.extractLsb' 2 14

/-- `TCONV(raw)` (R72): the temperature in counts of 1/6,553,600 degC. -/
def tconv (raw : RawWord) : Int := kTMul * raw.toNat - kTOff

/-- `HUNC(raw)` (R74): the uncompensated humidity in counts of 1/8,192,000 %RH. -/
def hunc (raw : RawWord) : Int := kHMul * raw.toNat - kHOff

/-- `HCORR(t)` (R75): the compensation term. The division is exact for every value of TCONV (R73); for any other
integer it is the arithmetic shift the rule names (notes/assumptions/5.md). -/
def hcorr (t : Int) : Int := kCNum * (t / 2 ^ kCShift) - kCOff

/-- `HCORR_LUT[q]` (R76): the humidity-correction table by temperature code. -/
def hcorrLut (q : Code14) : Int := kLutMul * q.toNat - kLutOff

/-- `HCLAMP(x)` (R77): clamp into the bounds, both included. -/
def hclamp (x : Int) : Int := min (max x kHMin) kHMax

/-- `HCONV(raw_h, t)` (R78): convert, then compensate, then clamp once. -/
def hconv (rawH : RawWord) (t : Int) : Int := hclamp (hunc rawH + hcorr t)

end Sys2Proof.Machine
end

