-- ==== Sys2Proof/Machine/Cycle.lean ====
section
/-! DEFINITION. The meanings of the measurement-cycle commands MBEGIN, TSAMP and HSAMP
(spec/42_measurement_cycle.md rules R90 to R92). The tests stand in the order of spec/60_exceptions.md rule R128. -/

namespace Sys2Proof.Machine

/-- MBEGIN (R90): both readings `none`, PHASE WANT_T, in every phase. -/
def execMbegin (s : State) : Host.Outcome State Fault Refusal :=
  succeed 0 ((s.clearT.clearH).setPhase .wantT)

/-- The state a failed TSAMP leaves (R91): the cycle is over, no temperature; HV and H_FX are not written. -/
def failT (s : State) : State := s.clearT.setPhase .idle

/-- The state a failed HSAMP leaves (R92, D13): the cycle is over, neither reading. -/
def failH (s : State) : State := (s.clearT.clearH).setPhase .idle

/-- TSAMP cnt, b0, b1, b2 (R91). -/
def execTsamp (cnt : ByteCount) (b0 b1 b2 : Byte) (s : State) : Host.Outcome State Fault Refusal :=
  if s.phase ≠ .wantT then raise .seq s
  else if sampleComplete cnt = false then raise .bus (failT s)
  else if crcOk b0 b1 b2 = false then raise .crc (failT s)
  else
    succeed (sext32 (tconv (raw16 b0 b1))) ((s.storeT (sext32 (tconv (raw16 b0 b1)))).setPhase .wantH)

/-- HSAMP cnt, b0, b1, b2 (R92). Where TV = 1 and T_FX is `none`, which R12 excludes, there is no temperature to
compute from and the command is refused as out of sequence (notes/assumptions/3.md). -/
def execHsamp (cnt : ByteCount) (b0 b1 b2 : Byte) (s : State) : Host.Outcome State Fault Refusal :=
  if s.phase ≠ .wantH ∨ s.tv = false then raise .seq s
  else if sampleComplete cnt = false then raise .bus (failH s)
  else if crcOk b0 b1 b2 = false then raise .crc (failH s)
  else
    match s.tFx with
    | none => raise .seq s
    | some t =>
      succeed (zext32 (hconv (raw16 b0 b1) t.toInt).toNat)
        ((s.storeH (zext32 (hconv (raw16 b0 b1) t.toInt).toNat)).setPhase .idle)

end Sys2Proof.Machine
end

