-- ==== Sys2Proof/Machine/RegisterAccess.lean ====
section
/-! DEFINITION. The meaning of RDREG (spec/43_register_access.md rule R110). -/

namespace Sys2Proof.Machine

/-- RDREG reg (R110): read one register; no side effect. A number that names no register is no command: its word is
illegal (R47, R48), and so is this term. -/
def execRdreg (reg : RegNum) (s : State) : Host.Outcome State Fault Refusal :=
  match regOf reg with
  | some r => succeed (readReg r s) s
  | none => raise .ill s

end Sys2Proof.Machine
end

