-- ==== Sys2Proof/Machine/Dispatch.lean ====
section
/-! DEFINITION. Which meaning each command has: one arm per constructor of Instr. -/

namespace Sys2Proof.Machine

def exec (i : Instr) (s : State) : Host.Outcome State Fault Refusal :=
  match i with
  | .crcchk b0 b1 b2 => Sys2Proof.Machine.execCrcchk b0 b1 b2 s
  | .mbegin => Sys2Proof.Machine.execMbegin s
  | .tsamp cnt b0 b1 b2 => Sys2Proof.Machine.execTsamp cnt b0 b1 b2 s
  | .hsamp cnt b0 b1 b2 => Sys2Proof.Machine.execHsamp cnt b0 b1 b2 s
  | .rdreg reg => Sys2Proof.Machine.execRdreg reg s

end Sys2Proof.Machine
end

