-- ==== Sys2Proof/Machine/Command.lean ====
section
/-! DEFINITION. Executing the command word in the block: decode it, then run the command, or refuse the word as
illegal (spec/30_encoding.md rules R47 and R48, spec/60_exceptions.md rule R124). -/

namespace Sys2Proof.Machine

/-- Execute one command word (R47, R48): an illegal word answers ILL and changes no state. -/
def execWord (w : CmdWord) (s : State) : Host.Outcome State Fault Refusal :=
  match decode w with
  | .ok i => exec i s
  | .error _ => raise .ill s

end Sys2Proof.Machine
end

