-- ==== Sys2Proof/Machine/Step.lean ====
section
/-! DEFINITION. One step of the machine. Reset comes first (spec/70_reset_and_hazards.md rule R140); else the
command in the block is executed, in one step (R144, spec/00_scope.md rule R3); else the ports move (R144). -/

namespace Sys2Proof.Machine

/-- One step: the reset input, or the execution of the command in the block, or the handshake. -/
def step (s : State) : Host.Outcome State Fault Refusal :=
  if resetAsserted s then .next (resetBlock s).hostDone
  else
    match s.cmd with
    | some w => execWord w s
    | none => .next (portStep s)

/-- `s` with the instruction of `nbits` bits `w` in the block, so that the very next step executes it. The block
fetches nothing (R19): this stands for the host's issue of the word and its acceptance (notes/assumptions/1.md). -/
def State.withFetchWord (s : State) (nbits w : Nat) : State := loadCommand (tableWord nbits w) s

end Sys2Proof.Machine
end

