-- ==== Sys2Proof/Machine/CrcNetwork.lean ====
section
/-! DEFINITION. CRC8 as an unrolled XOR network, one of the realisations spec/40_crc8.md rule R63 allows. Each data
bit contributes one constant (spec/95_test_vectors.md section 2.2). No command uses it: it is the object of the
statement that it equals the bit-serial rule R60 on every input pair. -/

namespace Sys2Proof.Machine

/-- The checksum of the 16-bit word with only bit `i` set, bit 0 first (spec/95_test_vectors.md section 2.2). -/
def crcContributions : List Byte :=
  [0x31, 0x62, 0xC4, 0xB9, 0x43, 0x86, 0x3D, 0x7A,
   0xF4, 0xD9, 0x83, 0x37, 0x6E, 0xDC, 0x89, 0x23]

/-- The XOR of the contributions of the bits of `x` from bit `i` upwards. -/
def crcXorFrom (x : BitVec 16) : Nat → List Byte → Byte
  | _, [] => 0
  | i, c :: rest => (if x.getLsbD i then c else 0) ^^^ crcXorFrom x (i + 1) rest

/-- The checksum of the word `b0, b1` as a XOR of contributions. -/
def crc8Network (b0 b1 : Byte) : Byte := crcXorFrom (b0 ++ b1) 0 crcContributions

end Sys2Proof.Machine
end

