-- ==== Sys2Proof/Machine/Datapath.lean ====
section
/-! DEFINITION. The formula engine on a signed 32-bit two's-complement datapath, the other realisation
spec/41_formula_engine.md rule R79 allows (and the shift and add of rule R75). No command uses it: it is the
object of the refinement statement that it computes what Formula.lean computes. -/

namespace Sys2Proof.Machine

/-- TCONV in 32-bit arithmetic (R72, R79). -/
def tconv32 (raw : RawWord) : DataWord :=
  BitVec.ofInt 32 kTMul * raw.setWidth 32 - BitVec.ofInt 32 kTOff

/-- HUNC in 32-bit arithmetic (R74, R79). -/
def hunc32 (raw : RawWord) : DataWord :=
  BitVec.ofInt 32 kHMul * raw.setWidth 32 - BitVec.ofInt 32 kHOff

/-- HCORR in 32-bit arithmetic, its division an arithmetic shift right (R75, R79). -/
def hcorr32 (t : DataWord) : DataWord :=
  BitVec.ofInt 32 kCNum * t.sshiftRight kCShift - BitVec.ofInt 32 kCOff

/-- HCLAMP with signed 32-bit comparisons (R77, R80). -/
def hclamp32 (x : DataWord) : DataWord :=
  if x.slt (BitVec.ofInt 32 kHMin) then BitVec.ofInt 32 kHMin
  else if (BitVec.ofInt 32 kHMax).slt x then BitVec.ofInt 32 kHMax
  else x

/-- HCONV in 32-bit arithmetic (R78, R79). -/
def hconv32 (rawH : RawWord) (t : DataWord) : DataWord :=
  hclamp32 (hunc32 rawH + hcorr32 t)

end Sys2Proof.Machine
end

