-- ==== Sys2Proof/Machine/Units.lean ====
section
/-! DEFINITION. What the readings mean in the document's units (spec/41_formula_engine.md rules R81 and R83,
spec/10_state.md rules R12 and R13), as exact rational numbers, and the document's own formulas with the decimal
literals read as written (D21). The block itself does not divide; claims are stated in these terms. -/

namespace Sys2Proof.Machine

/-- Degrees Celsius of a temperature in counts: T_FX / 6,553,600 (R83). -/
def celsius (t : Int) : ℚ := t / config.scaleT

/-- Percent relative humidity of a humidity in counts: H_FX / 8,192,000 (R83). -/
def percentRH (h : Int) : ℚ := h / config.scaleH

/-- The document's temperature formula, -46.85 + 175.72 * raw / 65536.0 (R72). -/
def docTemperature (raw : RawWord) : ℚ :=
  config.tOffset / 100 + config.tSpan / 100 * raw.toNat / config.rawDiv

/-- The document's humidity formula before compensation, -6.0 + 125.0 * raw / 65536.0 (R74). -/
def docHumidity (raw : RawWord) : ℚ :=
  config.hOffset / 100 + config.hSpan / 100 * raw.toNat / config.rawDiv

/-- The document's compensation term, (25.0 - temperature) * (-0.15) (R75). -/
def docCompensation (temperature : ℚ) : ℚ :=
  (config.compRef / 100 - temperature) * (config.compCoeff / 100)

/-- The document's clamp into [0.0, 100.0] (R77). -/
def docClamp (h : ℚ) : ℚ := min (max h (config.hMin / 100)) (config.hMax / 100)

end Sys2Proof.Machine
end

