-- ==== Sys2Proof/Safety.lean ====
section
/-! DEFINITION. The terms claims are made in: the invariant of the block (spec/10_state.md rules R10 to R14,
spec/42_measurement_cycle.md rule R95, spec/70_reset_and_hazards.md rule R144), the reachable states, the state
after a sequence of command words, and the two kinds of host of spec/20_memory.md rule R38. -/

namespace Sys2Proof.Machine

/-- The five items of the architectural state (R10). -/
def items (s : State) : Phase × Bool × Bool × Option DataWord × Option DataWord :=
  (s.phase, s.tv, s.hv, s.tFx, s.hFx)

/-- The triple (PHASE, TV, HV) of R14. -/
def cycleTriple (s : State) : Phase × Bool × Bool := (s.phase, s.tv, s.hv)

/-- The four triples of R14. -/
def cycleTriples : List (Phase × Bool × Bool) :=
  [(.idle, false, false), (.idle, true, true), (.wantT, false, false), (.wantH, true, false)]

/-- The valid bits tell which readings are held (R12, R13). -/
def MarksRight (s : State) : Prop := s.tv = s.tFx.isSome ∧ s.hv = s.hFx.isSome

/-- A temperature held is a value of TCONV (R10, R12). -/
def TemperatureRight (s : State) : Prop :=
  ∀ t, s.tFx = some t → ∃ b0 b1, t = sext32 (tconv (raw16 b0 b1))

/-- A humidity held is compensated with the temperature held beside it (R13, R95). -/
def HumidityRight (s : State) : Prop :=
  ∀ h, s.hFx = some h →
    ∃ t b0 b1, s.tFx = some t ∧ h = zext32 (hconv (raw16 b0 b1) t.toInt).toNat

/-- At most one command is in the block (R144). -/
def OneCommand (s : State) : Prop := s.cmd = none ∨ s.rsp = none

/-- A response that waits at the port shows the state as it is, and its ERR is one of the five codes, NONE exactly
with OK (R50 to R52, R125). -/
def ResponseRight (s : State) : Prop :=
  ∀ r, s.rsp = some r →
    rspState r = stateBits s ∧ (rspOk r = true ↔ rspErr r = 0) ∧ (rspErr r).toNat ≤ 4

/-- The invariant of the block. -/
structure BlockInv (s : State) : Prop where
  /-- R14. -/
  triple : cycleTriple s ∈ cycleTriples
  /-- R12, R13. -/
  marks : MarksRight s
  /-- R10, R12. -/
  temperature : TemperatureRight s
  /-- R13, R95. -/
  humidity : HumidityRight s
  /-- R144. -/
  oneCommand : OneCommand s
  /-- R50 to R52, R125. -/
  response : ResponseRight s

/-- The states reachable from reset, whatever the host does at the ports at any time. -/
inductive Reachable : State → Prop where
  /-- The state after reset. -/
  | reset : Reachable State.reset
  /-- The host may do anything next. -/
  | host {s : State} (acts : List HostAction) : Reachable s → Reachable { s with host := acts }
  /-- The machine takes a step. -/
  | step {s t : State} : Reachable s → step s = .next t → Reachable t

/-- The state after the command word `w` is executed (R37); execution always answers (R148). -/
def after (w : CmdWord) (s : State) : State :=
  match execWord w s with
  | .next t => t
  | .fault _ => s
  | .refused _ => s

/-- The state after the command words `ws` are executed in order: the fold of R37. -/
def afterAll (ws : List CmdWord) (s : State) : State := ws.foldl (fun u w => after w u) s

/-- One command and the taking of its response. -/
def transact (w : CmdWord) (s : State) : State := (after w s).takeResponse

/-- Commands and their responses, in order (R37, R144). -/
def transactAll (ws : List CmdWord) (s : State) : State := ws.foldl (fun u w => transact w u) s

/-- `n` steps of the machine. -/
def steps : Nat → State → Host.Outcome State Fault Refusal
  | 0, s => .next s
  | n + 1, s =>
    match step s with
    | .next t => steps n t
    | .fault r => .fault r
    | .refused r => .refused r

/-- The host that takes each response before it issues the next command (R38): the document's blocking call. -/
def waitingHost (ws : List CmdWord) : List HostAction := ws.flatMap fun w => [.issue w, .take]

/-- The host that presents each command without waiting for the response before it (R38). -/
def eagerHost (ws : List CmdWord) : List HostAction := ws.map .issue ++ [.take]

end Sys2Proof.Machine
end

