-- ==== Sys2Proof/Certificates/Slice0/Obligations.lean ====
section
/-! DEFINITION. The statements for the provers, each a reading of numbered rules of spec/. What a response word or
a raw word must be is written out here in numbers, apart from the model's own definitions of it. -/

open Sys2Proof Sys2Proof.Machine

namespace Sys2Proof.Claims

/-- The number of a phase (R11). -/
def phaseNum : Phase → Nat
  | .idle => 0
  | .wantT => 1
  | .wantH => 2

/-- PHASE in bits 3:2, HV in bit 1, TV in bit 0 (R15, R50). -/
def stLow (s : State) : Nat := 4 * phaseNum s.phase + 2 * s.hv.toNat + s.tv.toNat

/-- The response word with ST = `st` and DATA = `data` (R50). -/
def rsp40 (st : Nat) (data : DataWord) : RspWord := BitVec.ofNat 40 (st * 2 ^ 32 + data.toNat)

/-- The raw word of two data bytes as a number: big-endian, the two status bits dropped (R70). -/
def rawNum (b0 b1 : Byte) : Nat := 256 * b0.toNat + 4 * (b1.toNat / 4)

/-- The temperature of a sample in counts (R72), as a 32-bit pattern. -/
def temperature (b0 b1 : Byte) : DataWord := BitVec.ofInt 32 (17572 * rawNum b0 b1 - 307036160)

/-- The humidity of a sample in counts, compensated with a temperature of `t` counts and clamped (R78). -/
def humidity (b0 b1 : Byte) (t : Int) : Int :=
  min (max (15625 * rawNum b0 b1 - 49152000 + (3 * (t / 16) - 30720000)) 0) 819200000

/-- One iteration of R60 on an accumulator as a number below 256: the high bit tested, then the shift, then the
polynomial. -/
def crcOne (acc : Nat) : Nat := if 128 ≤ acc then (2 * acc % 256) ^^^ 0x31 else 2 * acc % 256

/-- The eight iterations of one byte (R60). -/
def crcEight (acc : Nat) : Nat := crcOne (crcOne (crcOne (crcOne (crcOne (crcOne (crcOne (crcOne acc)))))))

/-- ERR of a response word, bits 38:36 (R50). -/
def errNum (r : RspWord) : Nat := r.toNat / 2 ^ 36 % 8

/-- OK of a response word, bit 39 (R50). -/
def okNum (r : RspWord) : Nat := r.toNat / 2 ^ 39

/-- Command `i` in state `s` answers with error code `e` and changes none of the five items. -/
def RefusedWith (e : Nat) (i : Instr) (s : State) : Prop :=
  ∃ t r, exec i s = .next t ∧ t.rsp = some r ∧ errNum r = e ∧ items t = items s

/-- The command word in the block of `s` is about to be executed: no reset is asserted. -/
def Executes (s : State) (w : CmdWord) : Prop := resetAsserted s = false ∧ s.cmd = some w

/-- Row of R93: before, command outcome, after. -/
def cycleAfter (triple : Phase × Bool × Bool) (i : Instr) (good : Bool) : Option (Phase × Bool × Bool) :=
  match i, triple with
  | .mbegin, _ => some (.wantT, false, false)
  | .tsamp _ _ _ _, (.wantT, false, false) => some (if good then (.wantH, true, false) else (.idle, false, false))
  | .hsamp _ _ _ _, (.wantH, true, false) => some (if good then (.idle, true, true) else (.idle, false, false))
  | _, _ => none

end Sys2Proof.Claims

open Sys2Proof.Claims

/-! ### Reset and the ports -/

/-- R22: the state after reset, what STATUS and registers 1 and 2 read then, and that KROM is not affected. -/
def Obligations.ResetLeavesIdleWithoutReadings : Prop :=
  State.reset.phase = .idle ∧ State.reset.tv = false ∧ State.reset.hv = false ∧
    State.reset.tFx = none ∧ State.reset.hFx = none ∧
    (∀ s, items (resetBlock s) = items State.reset) ∧
    readReg .status State.reset = 0 ∧ readReg .tFx State.reset = 0 ∧ readReg .hFx State.reset = 0 ∧
    ∀ s i, readReg (.krom i) (resetBlock s) = readReg (.krom i) s

/-- R140: a step with reset asserted leaves the reset values whatever the state was, and discards a command that
was accepted and not yet answered, without a response; no command is accepted in that step. -/
def Obligations.ResetDiscardsTheCommandInFlight : Prop :=
  ∀ (s : State) (rest : List HostAction), s.host = .reset :: rest →
    ∃ t, step s = .next t ∧ t.phase = .idle ∧ t.tv = false ∧ t.hv = false ∧ t.tFx = none ∧ t.hFx = none ∧
      t.cmd = none ∧ t.host = rest ∧ t.taken = s.taken ∧ (s.rsp = none → t.rsp = none)

/-- The MODEL's choice (notes/assumptions/4.md, DEDUCED): a response that waits at the port when reset is asserted
is dropped, and the host does not receive it. -/
def Obligations.ResetDropsAWaitingResponse : Prop :=
  ∀ (s : State) (r : RspWord) (rest : List HostAction), s.host = .reset :: rest → s.rsp = some r →
    ∃ t, step s = .next t ∧ t.rsp = none ∧ t.taken = s.taken

/-- R144: a command is accepted only when the block holds none, it is held until its response has been taken, and
responses go to the host in order; in the MODEL the host's actions are a list (notes/assumptions/1.md). -/
def Obligations.PortsHoldOneCommandAtATime : Prop :=
  ∀ (s : State) (w : CmdWord) (rest : List HostAction), s.cmd = none →
    (s.host = .issue w :: rest → s.rsp = none →
      step s = .next { s with cmd := some w, host := rest }) ∧
    (∀ r, s.host = .issue w :: rest → s.rsp = some r →
      step s = .next { s with rsp := none, taken := s.taken ++ [r] }) ∧
    (∀ r, s.host = .take :: rest → s.rsp = some r →
      step s = .next { s with rsp := none, taken := s.taken ++ [r], host := rest })

/-- The MODEL's idle steps (notes/assumptions/1.md): with no host action and no command in the block the state
stays, and a take with no response does nothing. -/
def Obligations.IdleBlockKeepsItsState : Prop :=
  ∀ (s : State) (rest : List HostAction), s.cmd = none →
    (s.host = [] → step s = .next s) ∧
    (s.host = .take :: rest → s.rsp = none → step s = .next { s with host := rest })

/-- A step runs the decoded instruction: with a well-formed command's word in the block and no reset asserted, the
step is `exec` of that command, and nothing else is added around it. -/
def Obligations.StepRunsTheDecodedCommand : Prop :=
  ∀ (s : State) (w : CmdWord) (i : Instr), Executes s w → decode w = .ok i → step s = exec i s

/-- R148: every state has a next state, so the block never stops or hangs; and an accepted command has its
response after the one step that executes it. -/
def Obligations.EveryStepAnswers : Prop :=
  (∀ s, ∃ t, step s = .next t) ∧
    ∀ s w, Executes s w → ∃ t r, step s = .next t ∧ t.cmd = none ∧ t.rsp = some r

/-- R50, R51: the layout of the response word, and that every executed command word produces exactly one response,
whose state bits are those after the command and whose OK is 1 exactly when ERR is 0. -/
def Obligations.ResponseWordLayoutAndOneResponse : Prop :=
  (∀ ok err data s,
    (responseWord ok err data s).toNat = (ok.toNat * 128 + err.code.toNat * 16 + stLow s) * 2 ^ 32 + data.toNat) ∧
  ∀ s w, Executes s w → ∃ t r, step s = .next t ∧ t.rsp = some r ∧ t.cmd = none ∧
    r.toNat / 2 ^ 32 % 16 = stLow t ∧ (okNum r = 1 ↔ errNum r = 0)

/-- R52, R125: the codes of ERR, of which 5, 6 and 7 are never produced; NONE goes with OK = 1 and with nothing
else. -/
def Obligations.ErrorCodesAreTheFive : Prop :=
  ErrCode.noError.code = 0 ∧ ErrCode.bus.code = 1 ∧ ErrCode.crc.code = 2 ∧ ErrCode.seq.code = 3 ∧
    ErrCode.ill.code = 4 ∧
    ∀ s w t r, Executes s w → step s = .next t → t.rsp = some r → errNum r ≤ 4 ∧ (errNum r = 0 ↔ okNum r = 1)

/-- 30_encoding.md section 5: in a state of the block every response's ST is one of the seventeen listed. -/
def Obligations.ResponseStatusIsOneOfTheListed : Prop :=
  ∀ s w t r, BlockInv s → Executes s w → step s = .next t → t.rsp = some r →
    r.toNat / 2 ^ 32 ∈
      [0x80, 0x83, 0x84, 0x89, 0x10, 0x20, 0x23, 0x24, 0x29, 0x30, 0x33, 0x34, 0x39, 0x40, 0x43, 0x44, 0x49]

/-! ### Encoding -/

/-- Decode and encode agree: every well-formed command, with every operand at every value, is what its word
decodes to. -/
def Obligations.DecodeOfEncode : Prop :=
  ∀ i : Instr, i.wf = true → decode (encode i) = .ok i

/-- Each word has one meaning: a word that decodes to a command is that command's word. -/
def Obligations.EncodeOfDecode : Prop :=
  ∀ (w : CmdWord) (i : Instr), decode w = .ok i → i.wf = true ∧ encode i = w

/-- R46, R47: a word selects a row when w & mask = match, and decodes to that row's command with its fields;
RDREG of 3 to 7, and a word that selects no row, decode to no command. -/
def Obligations.DecodeSelectsTheTableRow : Prop :=
  ∀ w : CmdWord,
    let b0 := BitVec.ofNat 8 (w.toNat / 2 ^ 16)
    let b1 := BitVec.ofNat 8 (w.toNat / 2 ^ 8)
    let b2 := BitVec.ofNat 8 w.toNat
    let cnt := BitVec.ofNat 2 (w.toNat / 2 ^ 26)
    let reg := BitVec.ofNat 4 w.toNat
    (w &&& 0xFF000000 = 0x10000000 → decode w = .ok (.crcchk b0 b1 b2)) ∧
    (w &&& 0xFFFFFFFF = 0x20000000 → decode w = .ok .mbegin) ∧
    (w &&& 0xF3000000 = 0x30000000 → decode w = .ok (.tsamp cnt b0 b1 b2)) ∧
    (w &&& 0xF3000000 = 0x40000000 → decode w = .ok (.hsamp cnt b0 b1 b2)) ∧
    (w &&& 0xFFFFFFF0 = 0x50000000 → (reg.toNat ≤ 2 ∨ 8 ≤ reg.toNat) → decode w = .ok (.rdreg reg)) ∧
    (w &&& 0xFFFFFFF0 = 0x50000000 → 3 ≤ reg.toNat → reg.toNat ≤ 7 → ∀ i, decode w ≠ .ok i) ∧
    (w &&& 0xFF000000 ≠ 0x10000000 → w &&& 0xFFFFFFFF ≠ 0x20000000 → w &&& 0xF3000000 ≠ 0x30000000 →
      w &&& 0xF3000000 ≠ 0x40000000 → w &&& 0xFFFFFFF0 ≠ 0x50000000 → ∀ i, decode w ≠ .ok i)

/-- R48, R124: the illegal words are exactly these, and executing one changes no state and answers ILL with
DATA = 0. -/
def Obligations.IllegalWordsAreTheseAndAreRefused : Prop :=
  (∀ w : CmdWord, (∀ i, decode w ≠ .ok i) ↔
    (w.toNat / 2 ^ 28 = 0 ∨ 6 ≤ w.toNat / 2 ^ 28 ∨
      (w.toNat / 2 ^ 28 = 1 ∧ w.toNat / 2 ^ 24 % 16 ≠ 0) ∨
      (w.toNat / 2 ^ 28 = 2 ∧ w.toNat % 2 ^ 28 ≠ 0) ∨
      ((w.toNat / 2 ^ 28 = 3 ∨ w.toNat / 2 ^ 28 = 4) ∧ w.toNat / 2 ^ 24 % 4 ≠ 0) ∨
      (w.toNat / 2 ^ 28 = 5 ∧
        (w.toNat / 2 ^ 4 % 2 ^ 24 ≠ 0 ∨ (3 ≤ w.toNat % 16 ∧ w.toNat % 16 ≤ 7))))) ∧
  ∀ (s : State) (w : CmdWord), Executes s w → (∀ i, decode w ≠ .ok i) →
    step s = .next { s with cmd := none, rsp := some (rsp40 (0x40 + stLow s) 0) }

/-- Words of 30_encoding.md section 6 and 95_test_vectors.md sections 6 and 7 and the commands they stand for; the
illegal ones by 30_encoding.md sections 3 and 4. -/
def Obligations.ListedWordsDecodeAsListed : Prop :=
  decode 0x10646AB6 = .ok (.crcchk 0x64 0x6A 0xB6) ∧ decode 0x20000000 = .ok .mbegin ∧
    decode 0x3C683A7C = .ok (.tsamp 3 0x68 0x3A 0x7C) ∧ decode 0x4C4E856B = .ok (.hsamp 3 0x4E 0x85 0x6B) ∧
    decode 0x5000000D = .ok (.rdreg 13) ∧ decode 0x3D683A7C = .error (.reservedBits 3) ∧
    decode 0x50000007 = .error (.reservedRegister 7) ∧ decode 0xFFFFFFFF = .error (.reservedOpcode 15)

/-! ### The CRC-8 validator -/

/-- R60, R61: CRC8 is the accumulator after both bytes, each XORed in and followed by eight iterations, written here
in numbers; CRC_OK is equality of all eight bits. -/
def Obligations.ChecksumFollowsTheBitSerialRule : Prop :=
  ∀ b0 b1 b2 : Byte,
    (crc8 b0 b1).toNat = crcEight (crcEight b0.toNat ^^^ b1.toNat) ∧ (crcOk b0 b1 b2 = true ↔ crc8 b0 b1 = b2)

/-- R64: the all-zero sample passes; CRC8 is linear over XOR; the checksums of the sixteen single-bit patterns are
those of 95_test_vectors.md section 2, none of them zero, so a flip of one data bit makes the check fail; and so
does a flip of one checksum bit alone. -/
def Obligations.CrcLinearAndSensitiveToEveryBit : Prop :=
  (crc8 0 0 = 0 ∧ crcOk 0 0 0 = true) ∧
  (∀ a0 a1 c0 c1, crc8 (a0 ^^^ c0) (a1 ^^^ c1) = crc8 a0 a1 ^^^ crc8 c0 c1) ∧
  ((List.range 8).map (fun i => crc8 0 (BitVec.twoPow 8 i)) = [0x31, 0x62, 0xC4, 0xB9, 0x43, 0x86, 0x3D, 0x7A] ∧
    (List.range 8).map (fun i => crc8 (BitVec.twoPow 8 i) 0) = [0xF4, 0xD9, 0x83, 0x37, 0x6E, 0xDC, 0x89, 0x23]) ∧
  (∀ b0 b1 b2 i, i < 8 → crcOk b0 b1 b2 = true →
    crcOk (b0 ^^^ BitVec.twoPow 8 i) b1 b2 = false ∧ crcOk b0 (b1 ^^^ BitVec.twoPow 8 i) b2 = false ∧
      crcOk b0 b1 (b2 ^^^ BitVec.twoPow 8 i) = false)

/-- R63: the unrolled XOR network, with the sixteen constants of 95_test_vectors.md section 2.2, equals the
bit-serial CRC8 on every input pair. -/
def Obligations.XorNetworkEqualsBitSerialCrc : Prop :=
  ∀ b0 b1, crc8Network b0 b1 = crc8 b0 b1

/-- R62: CRCCHK's word, its answer on both outcomes with the computed checksum, its legality in every state, and
that it changes nothing but the ports. -/
def Obligations.CrcchkAnswersTheChecksum : Prop :=
  ∀ (b0 b1 b2 : Byte) (s : State),
    encode (.crcchk b0 b1 b2) =
      (0x10000000 ||| b0.setWidth 32 <<< 16 ||| b1.setWidth 32 <<< 8 ||| b2.setWidth 32) ∧
    (crc8 b0 b1 = b2 → exec (.crcchk b0 b1 b2) s =
      .next { s with cmd := none, rsp := some (rsp40 (0x80 + stLow s) ((crc8 b0 b1).setWidth 32)) }) ∧
    (crc8 b0 b1 ≠ b2 → exec (.crcchk b0 b1 b2) s =
      .next { s with cmd := none, rsp := some (rsp40 (0x20 + stLow s) ((crc8 b0 b1).setWidth 32)) }) ∧
    exec (.crcchk 0 0 0) s = .next { s with cmd := none, rsp := some (rsp40 (0x80 + stLow s) 0) }

/-! ### The formula engine -/

/-- R70: RAW16 is big-endian, its low two bits 0: b0 in bits 15:8, the upper six bits of b1 in bits 7:2. -/
def Obligations.RawWordIsBigEndianAndMasked : Prop :=
  ∀ b0 b1 : Byte,
    (raw16 b0 b1).toNat = rawNum b0 b1 ∧ (raw16 b0 b1).toNat / 256 = b0.toNat ∧
      (raw16 b0 b1).toNat / 4 % 64 = b1.toNat / 4 ∧ (raw16 b0 b1).toNat % 4 = 0

/-- R71: the values of RAW16 are exactly the multiples of 4; CODE14 is the value without the two zero bits, and takes
every value of its width; and two complete samples that differ in the status bits only, each with its own matching
checksum, have the same effect and the same answer. -/
def Obligations.StatusBitsReachOnlyTheChecksum : Prop :=
  (∀ raw : RawWord, (∃ b0 b1, raw16 b0 b1 = raw) ↔ raw.toNat % 4 = 0) ∧
  (∀ b0 b1, (raw16 b0 b1).toNat = 4 * (code14 (raw16 b0 b1)).toNat) ∧
  (∀ q : Code14, ∃ b0 b1, code14 (raw16 b0 b1) = q) ∧
  ∀ (b0 b1 c1 : Byte) (s : State), b1.toNat / 4 = c1.toNat / 4 →
    raw16 b0 b1 = raw16 b0 c1 ∧
    exec (.tsamp 3 b0 b1 (crc8 b0 b1)) s = exec (.tsamp 3 b0 c1 (crc8 b0 c1)) s ∧
    exec (.hsamp 3 b0 b1 (crc8 b0 b1)) s = exec (.hsamp 3 b0 c1 (crc8 b0 c1)) s

/-- R72: TCONV in counts, exactly the document's formula in degrees Celsius, with the decimal literals as written. -/
def Obligations.TemperatureIsTheDocumentFormula : Prop :=
  ∀ b0 b1 : Byte,
    tconv (raw16 b0 b1) = 17572 * (rawNum b0 b1 : Int) - 307036160 ∧
    (tconv (raw16 b0 b1) : ℚ) / 6553600 = -46.85 + 175.72 * (rawNum b0 b1 : ℚ) / 65536

/-- R73: TCONV is a multiple of 16 with the quotient given, strictly increasing, between its two ends, never 0, and
never exactly 25 degrees. -/
def Obligations.TemperatureCountsAreMultiplesOfSixteen : Prop :=
  (∀ b0 b1, tconv (raw16 b0 b1) = 16 * (4393 * ((code14 (raw16 b0 b1)).toNat : Int) - 19189760)) ∧
  (∀ r s : RawWord, r.toNat < s.toNat → tconv r < tconv s) ∧
  tconv (raw16 0 0) = -307036160 ∧ tconv (raw16 0xFF 0xFC) = 844492144 ∧
  (∀ b0 b1, -307036160 ≤ tconv (raw16 b0 b1) ∧ tconv (raw16 b0 b1) ≤ 844492144 ∧
    tconv (raw16 b0 b1) ≠ 0 ∧ (tconv (raw16 b0 b1) : ℚ) / 6553600 ≠ 25)

/-- R74: HUNC in counts, exactly the document's humidity formula before compensation, and its range. -/
def Obligations.UncompensatedHumidityIsTheDocumentFormula : Prop :=
  ∀ b0 b1 : Byte,
    hunc (raw16 b0 b1) = 15625 * (rawNum b0 b1 : Int) - 49152000 ∧
    (hunc (raw16 b0 b1) : ℚ) / 8192000 = -6 + 125 * (rawNum b0 b1 : ℚ) / 65536 ∧
    -49152000 ≤ hunc (raw16 b0 b1) ∧ hunc (raw16 b0 b1) ≤ 974785500

/-- R75: HCORR on a value of TCONV is exactly the document's compensation term, negative below 25 degrees and
positive above. -/
def Obligations.CorrectionIsTheDocumentTerm : Prop :=
  ∀ b0 b1 : Byte,
    let t := tconv (raw16 b0 b1)
    hcorr t = 3 * (t / 16) - 30720000 ∧ t % 16 = 0 ∧
    (hcorr t : ℚ) / 8192000 = (25 - (t : ℚ) / 6553600) * (-0.15) ∧
    ((t : ℚ) / 6553600 < 25 → hcorr t < 0) ∧ (25 < (t : ℚ) / 6553600 → 0 < hcorr t)

/-- R76: the correction table is the correction on every temperature word, its entries fit 28 bits, rise by 13,179
from the first to the last, and change sign between 6,699 and 6,700. -/
def Obligations.CorrectionTableEqualsCorrection : Prop :=
  (∀ b0 b1, hcorrLut (code14 (raw16 b0 b1)) = hcorr (tconv (raw16 b0 b1))) ∧
  (∀ q : Code14, hcorrLut q = 13179 * (q.toNat : Int) - 88289280 ∧
    -134217728 ≤ hcorrLut q ∧ hcorrLut q ≤ 134217727 ∧
    (hcorrLut q < 0 ↔ q.toNat ≤ 6699) ∧ (0 < hcorrLut q ↔ 6700 ≤ q.toNat)) ∧
  (∀ q r : Code14, r.toNat = q.toNat + 1 → hcorrLut r = hcorrLut q + 13179) ∧
  hcorrLut 0 = -88289280 ∧ hcorrLut 16383 = 127622277

/-- R77: the clamp returns 0 below 0, 819,200,000 above it, and every value between unchanged, both bounds
included. -/
def Obligations.ClampKeepsTheInclusiveRange : Prop :=
  ∀ x : Int, (x < 0 → hclamp x = 0) ∧ (819200000 < x → hclamp x = 819200000) ∧
    (0 ≤ x → x ≤ 819200000 → hclamp x = x)

/-- R78, R81: HCONV converts, compensates and clamps once at the end; temperature and humidity in counts, divided by
their scales, are the document's formulas in exact rational arithmetic over the decimal literals as written. -/
def Obligations.HumidityIsTheDocumentFormula : Prop :=
  ∀ t0 t1 h0 h1 : Byte,
    let temp : ℚ := -46.85 + 175.72 * (rawNum t0 t1 : ℚ) / 65536
    hconv (raw16 h0 h1) (tconv (raw16 t0 t1)) = humidity h0 h1 (tconv (raw16 t0 t1)) ∧
    0 ≤ hconv (raw16 h0 h1) (tconv (raw16 t0 t1)) ∧ hconv (raw16 h0 h1) (tconv (raw16 t0 t1)) ≤ 819200000 ∧
    (tconv (raw16 t0 t1) : ℚ) / 6553600 = temp ∧
    (hconv (raw16 h0 h1) (tconv (raw16 t0 t1)) : ℚ) / 8192000 =
      max 0 (min 100 (-6 + 125 * (rawNum h0 h1 : ℚ) / 65536 + (25 - temp) * (-0.15)))

/-- The parameters of 00_scope.md section 4 as configured fields: the counts, divided by their scales, are the
document's formulas over the named fields. -/
def Obligations.CountsFollowTheConfiguredLiterals : Prop :=
  ∀ t0 t1 h0 h1 : Byte,
    celsius (tconv (raw16 t0 t1)) = docTemperature (raw16 t0 t1) ∧
    percentRH (hconv (raw16 h0 h1) (tconv (raw16 t0 t1))) =
      docClamp (docHumidity (raw16 h0 h1) + docCompensation (docTemperature (raw16 t0 t1)))

/-- R79: the ranges of every intermediate value, which lie inside the signed 32-bit range; that the sum is never
exactly on a clamp bound; and that a signed 32-bit two's-complement datapath computes the same results as unbounded
integers, for every pair of samples. -/
def Obligations.ThirtyTwoBitDatapathEqualsIntegers : Prop :=
  ∀ t0 t1 h0 h1 : Byte,
    let t := tconv (raw16 t0 t1)
    let u := hunc (raw16 h0 h1)
    let c := hcorr t
    (17572 * rawNum t0 t1 ≤ 1151528304 ∧ -307036160 ≤ t ∧ t ≤ 844492144 ∧
      15625 * rawNum h0 h1 ≤ 1023937500 ∧ -49152000 ≤ u ∧ u ≤ 974785500 ∧
      -88289280 ≤ c ∧ c ≤ 127622277 ∧ -137441280 ≤ u + c ∧ u + c ≤ 1102407777 ∧
      u + c ≠ 0 ∧ u + c ≠ 819200000) ∧
    (tconv32 (raw16 t0 t1)).toInt = t ∧ (hunc32 (raw16 h0 h1)).toInt = u ∧
    (hcorr32 (tconv32 (raw16 t0 t1))).toInt = c ∧
    (hconv32 (raw16 h0 h1) (tconv32 (raw16 t0 t1))).toInt = hconv (raw16 h0 h1) t

/-! ### The measurement-cycle commands -/

/-- R90: MBEGIN's word, and its effect and answer in every state. -/
def Obligations.MbeginClearsAndOpensACycle : Prop :=
  encode .mbegin = 0x20000000 ∧
  ∀ s : State, exec .mbegin s =
    .next { s with phase := .wantT, tv := false, hv := false, tFx := none, hFx := none, cmd := none,
                   rsp := some 0x8400000000 }

/-- TSAMP's word, and its four outcomes in the order tested, in every state. HV and H_FX are never written. Where HV = 1
in WANT_T, a state no run reaches, ST shows HV as it is: the MODEL's reading (notes/assumptions/8.md, DEDUCED, from the
response word of 30_encoding.md section 5). -/
def Obligations.TsampFollowsItsRule : Prop :=
  ∀ (cnt : ByteCount) (b0 b1 b2 : Byte) (s : State),
    encode (.tsamp cnt b0 b1 b2) =
      (0x30000000 ||| cnt.setWidth 32 <<< 26 ||| b0.setWidth 32 <<< 16 ||| b1.setWidth 32 <<< 8 |||
        b2.setWidth 32) ∧
    (s.phase ≠ .wantT → exec (.tsamp cnt b0 b1 b2) s =
      .next { s with cmd := none, rsp := some (rsp40 (0x30 + stLow s) 0) }) ∧
    (s.phase = .wantT → cnt ≠ 3 → exec (.tsamp cnt b0 b1 b2) s =
      .next { s with phase := .idle, tv := false, tFx := none, cmd := none,
                     rsp := some (rsp40 (0x10 + 2 * s.hv.toNat) 0) }) ∧
    (s.phase = .wantT → cnt = 3 → crc8 b0 b1 ≠ b2 → exec (.tsamp cnt b0 b1 b2) s =
      .next { s with phase := .idle, tv := false, tFx := none, cmd := none,
                     rsp := some (rsp40 (0x20 + 2 * s.hv.toNat) 0) }) ∧
    (s.phase = .wantT → cnt = 3 → crc8 b0 b1 = b2 → exec (.tsamp cnt b0 b1 b2) s =
      .next { s with phase := .wantH, tv := true, tFx := some (temperature b0 b1), cmd := none,
                     rsp := some (rsp40 (0x89 + 2 * s.hv.toNat) (temperature b0 b1)) })

/-- R91: TSAMP's word; its refusal in every state outside WANT_T; and in WANT_T, in a state with one of the four triples
of R14 (which every run keeps), its other three outcomes in the order tested, with the response words of the rule. -/
def Obligations.TsampAnswersAsItsRuleStates : Prop :=
  ∀ (cnt : ByteCount) (b0 b1 b2 : Byte) (s : State),
    encode (.tsamp cnt b0 b1 b2) =
      (0x30000000 ||| cnt.setWidth 32 <<< 26 ||| b0.setWidth 32 <<< 16 ||| b1.setWidth 32 <<< 8 |||
        b2.setWidth 32) ∧
    (s.phase ≠ .wantT → exec (.tsamp cnt b0 b1 b2) s =
      .next { s with cmd := none, rsp := some (rsp40 (0x30 + stLow s) 0) }) ∧
    (cycleTriple s ∈ cycleTriples → s.phase = .wantT →
      (cnt ≠ 3 → exec (.tsamp cnt b0 b1 b2) s =
        .next { s with phase := .idle, tv := false, tFx := none, cmd := none, rsp := some 0x1000000000 }) ∧
      (cnt = 3 → crc8 b0 b1 ≠ b2 → exec (.tsamp cnt b0 b1 b2) s =
        .next { s with phase := .idle, tv := false, tFx := none, cmd := none, rsp := some 0x2000000000 }) ∧
      (cnt = 3 → crc8 b0 b1 = b2 → exec (.tsamp cnt b0 b1 b2) s =
        .next { s with phase := .wantH, tv := true, tFx := some (temperature b0 b1), cmd := none,
                       rsp := some (rsp40 0x89 (temperature b0 b1)) }))

/-- R92: HSAMP's word, and its four outcomes in the order tested. The temperature is any multiple of 16 that T_FX
holds, which every temperature of the block is. -/
def Obligations.HsampFollowsItsRule : Prop :=
  ∀ (cnt : ByteCount) (b0 b1 b2 : Byte) (s : State),
    encode (.hsamp cnt b0 b1 b2) =
      (0x40000000 ||| cnt.setWidth 32 <<< 26 ||| b0.setWidth 32 <<< 16 ||| b1.setWidth 32 <<< 8 |||
        b2.setWidth 32) ∧
    ((s.phase ≠ .wantH ∨ s.tv ≠ true) → exec (.hsamp cnt b0 b1 b2) s =
      .next { s with cmd := none, rsp := some (rsp40 (0x30 + stLow s) 0) }) ∧
    (s.phase = .wantH → s.tv = true → cnt ≠ 3 → exec (.hsamp cnt b0 b1 b2) s =
      .next { s with phase := .idle, tv := false, tFx := none, hv := false, hFx := none, cmd := none,
                     rsp := some 0x1000000000 }) ∧
    (s.phase = .wantH → s.tv = true → cnt = 3 → crc8 b0 b1 ≠ b2 → exec (.hsamp cnt b0 b1 b2) s =
      .next { s with phase := .idle, tv := false, tFx := none, hv := false, hFx := none, cmd := none,
                     rsp := some 0x2000000000 }) ∧
    (∀ t : DataWord, s.phase = .wantH → s.tv = true → cnt = 3 → crc8 b0 b1 = b2 → s.tFx = some t →
      t.toInt % 16 = 0 → exec (.hsamp cnt b0 b1 b2) s =
        .next { s with phase := .idle, hv := true, hFx := some (BitVec.ofInt 32 (humidity b0 b1 t.toInt)),
                       cmd := none, rsp := some (rsp40 0x83 (BitVec.ofInt 32 (humidity b0 b1 t.toInt))) })

/-- The MODEL's choice (notes/assumptions/3.md, DEDUCED): in a state with TV = 1 and no temperature, which R12
excludes, HSAMP of a complete sample is refused as out of sequence. -/
def Obligations.HsampWithoutATemperatureIsRefused : Prop :=
  ∀ (b0 b1 : Byte) (s : State), s.phase = .wantH → s.tv = true → s.tFx = none →
    exec (.hsamp 3 b0 b1 (crc8 b0 b1)) s =
      .next { s with cmd := none, rsp := some (rsp40 (0x30 + stLow s) 0) }

/-- R93: the transition table over the four triples of R14; where a row says SEQ, the answer is SEQ and nothing
changes. -/
def Obligations.CycleCommandsFollowTheTransitionTable : Prop :=
  ∀ (i : Instr) (cnt : ByteCount) (b0 b1 b2 : Byte) (s : State),
    cycleTriple s ∈ cycleTriples → MarksRight s →
    i ∈ [.mbegin, .tsamp cnt b0 b1 b2, .hsamp cnt b0 b1 b2] →
    ∃ t r, exec i s = .next t ∧ t.rsp = some r ∧
      match cycleAfter (cycleTriple s) i (decide (cnt = 3 ∧ crc8 b0 b1 = b2)) with
      | some after => cycleTriple t = after
      | none => errNum r = 3 ∧ items t = items s

/-- 42_measurement_cycle.md section 4: an HSAMP that answers OK leaves both readings (STATUS = 3); a TSAMP or an
HSAMP that fails in its phase leaves none (STATUS = 0); and once no cycle is open the five items stay until the next
MBEGIN or a reset. -/
def Obligations.CycleEndsWithBothReadingsOrNone : Prop :=
  (∀ (cnt : ByteCount) (b0 b1 b2 : Byte) (s t : State) (r : RspWord), BlockInv s → t.rsp = some r →
    (exec (.hsamp cnt b0 b1 b2) s = .next t →
      (okNum r = 1 → readReg .status t = 3) ∧
      (okNum r = 0 → s.phase = .wantH → readReg .status t = 0 ∧ t.tFx = none ∧ t.hFx = none)) ∧
    (exec (.tsamp cnt b0 b1 b2) s = .next t → okNum r = 0 → s.phase = .wantT →
      readReg .status t = 0 ∧ t.tFx = none ∧ t.hFx = none)) ∧
  ∀ s t : State, s.phase = .idle → step s = .next t → resetAsserted s = false →
    (∀ w, s.cmd = some w → decode w ≠ .ok .mbegin) → items t = items s

/-- R95: whenever HSAMP computes a humidity after any sequence of command words from reset, the temperature it
reads was stored by a TSAMP after the most recent MBEGIN, no HSAMP came between, and the humidity is compensated
with exactly that sample's temperature. -/
def Obligations.HumidityUsesTheTemperatureOfItsOwnCycle : Prop :=
  ∀ (ws : List CmdWord) (b0 b1 b2 : Byte) (t : State) (r : RspWord),
    exec (.hsamp 3 b0 b1 b2) (afterAll ws State.reset) = .next t → t.rsp = some r → okNum r = 1 →
    ∃ (before middle later : List CmdWord) (a0 a1 : Byte),
      ws = before ++ [encode .mbegin] ++ middle ++ [encode (.tsamp 3 a0 a1 (crc8 a0 a1))] ++ later ∧
      (∀ w ∈ middle ++ later, decode w ≠ .ok .mbegin) ∧
      (∀ w ∈ later, ∀ c d0 d1 d2, decode w ≠ .ok (.hsamp c d0 d1 d2)) ∧
      (afterAll ws State.reset).tFx = some (temperature a0 a1) ∧
      t.hFx = some (BitVec.ofInt 32 (humidity b0 b1 (tconv (raw16 a0 a1))))

/-- R34: RDREG and CRCCHK change none of the five items; every register reads the same after any step but an
MBEGIN, a TSAMP, an HSAMP or a reset; a second MBEGIN leaves the state of the first; the second of two identical
TSAMP or HSAMP is refused with SEQ. -/
def Obligations.ReadsAreIdempotentAndSamplesAreNot : Prop :=
  (∀ s t, step s = .next t → resetAsserted s = false →
    (∀ w, s.cmd = some w → decode w ≠ .ok .mbegin ∧ ∀ cnt b0 b1 b2,
      decode w ≠ .ok (.tsamp cnt b0 b1 b2) ∧ decode w ≠ .ok (.hsamp cnt b0 b1 b2)) →
    items t = items s ∧ ∀ q, readReg q t = readReg q s) ∧
  ∀ (reg : RegNum) (cnt : ByteCount) (b0 b1 b2 : Byte) (s : State),
    (∀ t, exec (.rdreg reg) s = .next t → items t = items s) ∧
    (∀ t, exec (.crcchk b0 b1 b2) s = .next t → items t = items s) ∧
    (∀ t, exec .mbegin s = .next t → ∃ u, exec .mbegin t = .next u ∧ items u = items t) ∧
    (∀ t, exec (.tsamp cnt b0 b1 b2) s = .next t → RefusedWith 3 (.tsamp cnt b0 b1 b2) t) ∧
    (∀ t, exec (.hsamp cnt b0 b1 b2) s = .next t → RefusedWith 3 (.hsamp cnt b0 b1 b2) t)

/-- R123: TSAMP outside WANT_T, and HSAMP outside WANT_H or without TV, are refused with SEQ and change nothing,
with DATA = 0. -/
def Obligations.SamplesOutsideTheirPhaseAreRefused : Prop :=
  ∀ (cnt : ByteCount) (b0 b1 b2 : Byte) (s : State),
    (s.phase ≠ .wantT → ∃ t r, exec (.tsamp cnt b0 b1 b2) s = .next t ∧ t.rsp = some r ∧ errNum r = 3 ∧
      okNum r = 0 ∧ r.toNat % 2 ^ 32 = 0 ∧ items t = items s) ∧
    (s.phase ≠ .wantH ∨ s.tv = false → ∃ t r, exec (.hsamp cnt b0 b1 b2) s = .next t ∧ t.rsp = some r ∧
      errNum r = 3 ∧ okNum r = 0 ∧ r.toNat % 2 ^ 32 = 0 ∧ items t = items s)

/-- R128: one error per command, the first of ILL, SEQ, BUS, CRC: an illegal word answers ILL in every state, a
sample in the wrong phase answers SEQ whatever its count and bytes, a short read in the right phase answers BUS
whatever its bytes, and only a complete sample in the right phase is checked. -/
def Obligations.ErrorPriorityIsIllSeqBusCrc : Prop :=
  (∀ s w, Executes s w → (∀ i, decode w ≠ .ok i) → ∃ t r, step s = .next t ∧ t.rsp = some r ∧ errNum r = 4) ∧
  ∀ (cnt : ByteCount) (b0 b1 b2 : Byte) (s t : State) (r : RspWord),
    (exec (.tsamp cnt b0 b1 b2) s = .next t → t.rsp = some r →
      (s.phase ≠ .wantT → errNum r = 3 ∧ items t = items s) ∧
      (s.phase = .wantT → cnt ≠ 3 → errNum r = 1) ∧
      (s.phase = .wantT → cnt = 3 → crc8 b0 b1 ≠ b2 → errNum r = 2)) ∧
    (exec (.hsamp cnt b0 b1 b2) s = .next t → t.rsp = some r →
      (s.phase ≠ .wantH ∨ s.tv = false → errNum r = 3 ∧ items t = items s) ∧
      (s.phase = .wantH → s.tv = true → cnt ≠ 3 → errNum r = 1) ∧
      (s.phase = .wantH → s.tv = true → cnt = 3 → crc8 b0 b1 ≠ b2 → errNum r = 2))

/-- R44: when CNT is less than 3 the byte fields are ignored, whatever they hold. -/
def Obligations.BytesOfAShortReadAreIgnored : Prop :=
  ∀ (cnt : ByteCount) (b0 b1 b2 c0 c1 c2 : Byte) (s : State), cnt.toNat < 3 →
    exec (.tsamp cnt b0 b1 b2) s = exec (.tsamp cnt c0 c1 c2) s ∧
    exec (.hsamp cnt b0 b1 b2) s = exec (.hsamp cnt c0 c1 c2) s

/-- R130: after a BUS or CRC failure of TSAMP or HSAMP both readings are "no value"; after a SEQ or ILL refusal the
readings are what they were. -/
def Obligations.FailedSamplesLeaveNoReadings : Prop :=
  ∀ s w t r, BlockInv s → Executes s w → step s = .next t → t.rsp = some r →
    (∀ cnt b0 b1 b2, (decode w = .ok (.tsamp cnt b0 b1 b2) ∨ decode w = .ok (.hsamp cnt b0 b1 b2)) →
      (errNum r = 1 ∨ errNum r = 2) →
      t.tFx = none ∧ t.hFx = none ∧ t.tv = false ∧ t.hv = false ∧ t.phase = .idle) ∧
    (errNum r = 3 ∨ errNum r = 4 → items t = items s)

/-! ### Registers and flags -/

/-- R110: RDREG's word, and its answer for every register it may name: STATUS, T_FX or 0, H_FX or 0, and the eight
constants; nothing but the ports changes. -/
def Obligations.RdregReadsTheNamedRegister : Prop :=
  ∀ (reg : RegNum) (s : State),
    encode (.rdreg reg) = (0x50000000 ||| reg.setWidth 32) ∧
    (reg = 0 → exec (.rdreg reg) s =
      .next { s with cmd := none, rsp := some (rsp40 (0x80 + stLow s) (BitVec.ofNat 32 (stLow s))) }) ∧
    (reg = 1 → exec (.rdreg reg) s =
      .next { s with cmd := none, rsp := some (rsp40 (0x80 + stLow s)
        (match s.tFx with | some v => v | none => 0)) }) ∧
    (reg = 2 → exec (.rdreg reg) s =
      .next { s with cmd := none, rsp := some (rsp40 (0x80 + stLow s)
        (match s.hFx with | some v => v | none => 0)) }) ∧
    (∀ k, k < 8 → reg.toNat = 8 + k → exec (.rdreg reg) s =
      .next { s with cmd := none, rsp := some (rsp40 (0x80 + stLow s)
        (([17572, 307036160, 15625, 49152000, 30720000, 819200000, 6553600, 8192000] : List DataWord).getD k 0)) })

/-- R16: KROM holds the eight constants, and reads the same before and after every step, a reset among them. -/
def Obligations.KromHoldsTheEightConstants : Prop :=
  (∀ s, readReg (.krom 0) s = 0x000044A4 ∧ readReg (.krom 1) s = 0x124D0000 ∧ readReg (.krom 2) s = 0x00003D09 ∧
    readReg (.krom 3) s = 0x02EE0000 ∧ readReg (.krom 4) s = 0x01D4C000 ∧ readReg (.krom 5) s = 0x30D40000 ∧
    readReg (.krom 6) s = 0x00640000 ∧ readReg (.krom 7) s = 0x007D0000) ∧
  (∀ k : Fin 8, regOf (BitVec.ofNat 4 (8 + k.val)) = some (.krom k)) ∧
  ∀ s t, step s = .next t → ∀ k, readReg (.krom k) t = readReg (.krom k) s

/-- R15: the layout of STATUS in every state, its reset value, and the only four values it takes in the states
reachable from reset. -/
def Obligations.StatusShowsTheFlagsAndThePhase : Prop :=
  (∀ s, (readReg .status s).toNat = stLow s) ∧ readReg .status State.reset = 0 ∧
  ∀ s, Reachable s → readReg .status s ∈ ([0x0, 0x3, 0x4, 0x9] : List DataWord)

/-- 10_state.md section 4: TV is set only by a successful TSAMP and HV only by a successful HSAMP; TV is cleared
only by MBEGIN, a TSAMP or HSAMP that fails with BUS or CRC, and reset, and HV only by MBEGIN, such an HSAMP, and
reset. -/
def Obligations.FlagsMoveOnlyWithTheirCommands : Prop :=
  ∀ s t, step s = .next t →
    (s.tv = false → t.tv = true → ∃ w b0 b1 b2, Executes s w ∧ decode w = .ok (.tsamp 3 b0 b1 b2) ∧
      crc8 b0 b1 = b2 ∧ s.phase = .wantT) ∧
    (s.hv = false → t.hv = true → ∃ w b0 b1 b2, Executes s w ∧ decode w = .ok (.hsamp 3 b0 b1 b2) ∧
      crc8 b0 b1 = b2 ∧ s.phase = .wantH) ∧
    (s.tv = true → t.tv = false → resetAsserted s = true ∨ ∃ w r, Executes s w ∧ t.rsp = some r ∧
      (decode w = .ok .mbegin ∨ ∃ cnt b0 b1 b2,
        (decode w = .ok (.tsamp cnt b0 b1 b2) ∨ decode w = .ok (.hsamp cnt b0 b1 b2)) ∧
          (errNum r = 1 ∨ errNum r = 2))) ∧
    (s.hv = true → t.hv = false → resetAsserted s = true ∨ ∃ w r, Executes s w ∧ t.rsp = some r ∧
      (decode w = .ok .mbegin ∨ ∃ cnt b0 b1 b2, decode w = .ok (.hsamp cnt b0 b1 b2) ∧
          (errNum r = 1 ∨ errNum r = 2)))

/-- R111: no step but a TSAMP or HSAMP whose sample passed the checksum gives T_FX or H_FX a value; in particular
no command loads one from the host. -/
def Obligations.OnlyCheckedSamplesSetAReading : Prop :=
  ∀ s t, step s = .next t →
    (∀ v, t.tFx = some v → s.tFx ≠ some v → ∃ w b0 b1, Executes s w ∧
      decode w = .ok (.tsamp 3 b0 b1 (crc8 b0 b1)) ∧ v = temperature b0 b1) ∧
    (∀ v, t.hFx = some v → s.hFx ≠ some v → ∃ w b0 b1 u, Executes s w ∧
      decode w = .ok (.hsamp 3 b0 b1 (crc8 b0 b1)) ∧ s.tFx = some u ∧
      (u.toInt % 16 = 0 → v = BitVec.ofInt 32 (humidity b0 b1 u.toInt)))

/-- The frame of every command: the host's side is untouched and the command leaves the block; CRCCHK and RDREG
change none of the five items; TSAMP never writes HV or H_FX; an HSAMP that answers OK writes neither TV nor T_FX;
MBEGIN depends on nothing. -/
def Obligations.CommandsKeepTheirFrames : Prop :=
  ∀ (i : Instr) (s t : State), exec i s = .next t →
    t.host = s.host ∧ t.taken = s.taken ∧ t.cmd = none ∧
    (∀ b0 b1 b2, i = .crcchk b0 b1 b2 → items t = items s) ∧
    (∀ reg, i = .rdreg reg → items t = items s) ∧
    (∀ cnt b0 b1 b2, i = .tsamp cnt b0 b1 b2 → t.hv = s.hv ∧ t.hFx = s.hFx) ∧
    (∀ cnt b0 b1 b2 r, i = .hsamp cnt b0 b1 b2 → t.rsp = some r → okNum r = 1 →
      t.tv = s.tv ∧ t.tFx = s.tFx) ∧
    (∀ u : State, i = .mbegin → ∃ v, exec .mbegin u = .next v ∧ items v = items t)

/-! ### Invariants and sequences -/

/-- The invariant of the block holds after reset. -/
def Obligations.InvariantHoldsAtReset : Prop := BlockInv State.reset

/-- Every step keeps the invariant of the block, from every state that meets it. -/
def Obligations.EveryStepKeepsTheInvariant : Prop :=
  ∀ s t, BlockInv s → step s = .next t → BlockInv t

/-- R14: in every state reachable from reset the triple (PHASE, TV, HV) is one of the four. -/
def Obligations.ReachableTriplesAreTheFour : Prop :=
  ∀ s, Reachable s → (s.phase, s.tv, s.hv) ∈
    [(Phase.idle, false, false), (Phase.idle, true, true), (Phase.wantT, false, false), (Phase.wantH, true, false)]

/-- R12, R13: in every state reachable from reset the valid bits tell exactly which readings are held; the
temperature in degrees and the humidity in percent are the counts divided by the scales; a humidity lies from 0 to
819,200,000 and is compensated with the temperature held beside it. -/
def Obligations.ReachableReadingsAreMarkedAndInRange : Prop :=
  (∀ v : Int, celsius v = (v : ℚ) / 6553600 ∧ percentRH v = (v : ℚ) / 8192000) ∧
  ∀ s, Reachable s →
    (s.tv = true ↔ s.tFx ≠ none) ∧ (s.hv = true ↔ s.hFx ≠ none) ∧
    (∀ h, s.hFx = some h → h.toNat ≤ 819200000 ∧
      ∃ t b0 b1, s.tFx = some t ∧ h = BitVec.ofInt 32 (humidity b0 b1 t.toInt))

/-- 10_state.md section 1: the temperatures the block can hold are multiples of 16 in their range, and never 0, so a
register 1 that reads 0 holds none. -/
def Obligations.ReachableTemperaturesAreMultiplesOfSixteen : Prop :=
  ∀ s, Reachable s → ∀ t, s.tFx = some t →
    t ≠ 0 ∧ t.toInt % 16 = 0 ∧ -307036160 ≤ t.toInt ∧ t.toInt ≤ 844492144

/-- R37: from a free block, a host that issues the command words `ws` and takes each response brings the block to
the fold of the one-command function over them, three steps a command, with one response a command, in order. -/
def Obligations.CommandsTakeEffectInIssueOrder : Prop :=
  ∀ (ws : List CmdWord) (s : State) (rest : List HostAction), s.cmd = none → s.rsp = none →
    s.host = waitingHost ws ++ rest →
    steps (3 * ws.length) s = .next { transactAll ws s with host := rest } ∧
      items (transactAll ws s) = items (afterAll ws s) ∧
      (transactAll ws s).taken.length = s.taken.length + ws.length

/-- R38: a host that does not wait for a response before it presents the next command sees the same results: the
same state and the same responses in the same order, after the same number of steps. -/
def Obligations.WaitingForResponsesChangesNothing : Prop :=
  ∀ (ws : List CmdWord) (s : State) (rest : List HostAction), ws ≠ [] → s.cmd = none → s.rsp = none →
    steps (3 * ws.length) { s with host := eagerHost ws ++ rest } =
      steps (3 * ws.length) { s with host := waitingHost ws ++ rest }
end

