-- ==== Sys2Proof/Laws/Constants.lean ====
section
/-! SUPPORT. The values of the parameters and of the derived constants (spec/00_scope.md rule R4), so that no later
proof evaluates their formulas. -/

namespace Sys2Proof.Machine

@[simp] theorem config_crcWidth : config.crcWidth = 8 := rfl
@[simp] theorem config_crcNbytes : config.crcNbytes = 2 := rfl
@[simp] theorem config_crcPoly : config.crcPoly = 0x31#8 := rfl
@[simp] theorem config_crcInit : config.crcInit = 0#8 := rfl
@[simp] theorem config_crcRefIn : config.crcRefIn = false := rfl
@[simp] theorem config_crcRefOut : config.crcRefOut = false := rfl
@[simp] theorem config_crcXorOut : config.crcXorOut = 0#8 := rfl
@[simp] theorem config_statusMask : config.statusMask = 0xFC#8 := rfl
@[simp] theorem config_sampleBytes : config.sampleBytes = 3 := rfl
@[simp] theorem config_scaleT : config.scaleT = 6553600 := rfl
@[simp] theorem config_scaleH : config.scaleH = 8192000 := rfl

@[simp] theorem kTMul_eq : kTMul = 17572 := by decide
@[simp] theorem kTOff_eq : kTOff = 307036160 := by decide
@[simp] theorem kHMul_eq : kHMul = 15625 := by decide
@[simp] theorem kHOff_eq : kHOff = 49152000 := by decide
@[simp] theorem kCShift_eq : kCShift = 4 := rfl
@[simp] theorem kCNum_eq : kCNum = 3 := by decide
@[simp] theorem kCOff_eq : kCOff = 30720000 := by decide
@[simp] theorem kHMin_eq : kHMin = 0 := by decide
@[simp] theorem kHMax_eq : kHMax = 819200000 := by decide
@[simp] theorem kLutMul_eq : kLutMul = 13179 := by decide
@[simp] theorem kLutOff_eq : kLutOff = 88289280 := by decide

end Sys2Proof.Machine
end

