-- ==== Sys2Proof/Laws/Crc.lean ====
section
/-! SUPPORT. The CRC at the block's parameters, and the linearity of one iteration, from which the laws of whole
checksums follow (spec/40_crc8.md rules R60 and R64). -/

namespace Sys2Proof.Machine

/-- At width 8 and with no reflection a byte is XORed in as it stands (R60). -/
theorem crcByte_eq (poly acc : BitVec 8) (b : Byte) :
    crcByte false poly acc b = crcIterations poly 8 (acc ^^^ b) := by
  simp [crcByte, reflectIf]

/-- At the block's parameters the checksum of two bytes is the accumulator after both (R60). -/
theorem crc8_eq (b0 b1 : Byte) :
    crc8 b0 b1 = crcIterations 0x31#8 8 (crcIterations 0x31#8 8 b0 ^^^ b1) := by
  have h : crc8 b0 b1 =
      ((crcByte false 0x31#8 (crcByte false 0x31#8 0#8 b0) b1) ^^^ 0#8).setWidth 8 := rfl
  simp [h, crcByte_eq]

@[simp] theorem crcOk_iff (b0 b1 b2 : Byte) : crcOk b0 b1 b2 = true ↔ crc8 b0 b1 = b2 := by
  simp [crcOk]

@[simp] theorem crcOk_false_iff (b0 b1 b2 : Byte) : crcOk b0 b1 b2 = false ↔ crc8 b0 b1 ≠ b2 := by
  simp [crcOk]

/-- One iteration commutes with XOR: of two taken branches the polynomial drops out. -/
theorem crcIterate_xor {w : Nat} (poly a b : BitVec w) :
    crcIterate poly (a ^^^ b) = crcIterate poly a ^^^ crcIterate poly b := by
  have cancel : ∀ x y : BitVec w, x ^^^ y = (x ^^^ poly) ^^^ (y ^^^ poly) := fun x y => by
    rw [BitVec.xor_comm y poly, ← BitVec.xor_assoc, BitVec.xor_assoc x poly poly, BitVec.xor_self, BitVec.xor_zero]
  unfold crcIterate
  cases ha : a.msb <;> cases hb : b.msb <;> simp [BitVec.msb_xor, ha, hb, BitVec.shiftLeft_xor_distrib]
  · ac_rfl
  · ac_rfl
  · exact cancel _ _

/-- Any number of iterations commutes with XOR. -/
theorem crcIterations_xor {w : Nat} (poly : BitVec w) (n : Nat) (a b : BitVec w) :
    crcIterations poly n (a ^^^ b) = crcIterations poly n a ^^^ crcIterations poly n b := by
  induction n generalizing a b with
  | zero => rfl
  | succ n ih => simp only [crcIterations, crcIterate_xor, ih]

end Sys2Proof.Machine
end

