-- ==== Sys2Proof/Laws/Decode.lean ====
section
/-! SUPPORT. The word of each format as a number (spec/30_encoding.md rules R40 to R46), and that every decoded
command is well formed (R47). -/

namespace Sys2Proof

/-- The word of CRCCHK as a number (R42). -/
theorem encode_crcchk_toNat (b0 b1 b2 : Byte) :
    (encode (.crcchk b0 b1 b2)).toNat =
      0x10000000 + b0.toNat * 0x10000 + b1.toNat * 0x100 + b2.toNat := by
  have h1 : (encode (.crcchk b0 b1 b2)).toNat = _ :=
    toNat_concat (0x1#4 ++ 0#4 ++ b0 ++ b1) b2
  simp only [h1, toNat_concat, BitVec.toNat_ofNat]
  omega

/-- The words of TSAMP as a number (R44). -/
theorem encode_tsamp_toNat (cnt : ByteCount) (b0 b1 b2 : Byte) :
    (encode (.tsamp cnt b0 b1 b2)).toNat =
      0x30000000 + cnt.toNat * 0x4000000 + b0.toNat * 0x10000 + b1.toNat * 0x100 + b2.toNat := by
  have h1 : (encode (.tsamp cnt b0 b1 b2)).toNat = _ :=
    toNat_concat (0x3#4 ++ cnt ++ 0#2 ++ b0 ++ b1) b2
  simp only [h1, toNat_concat, BitVec.toNat_ofNat]
  omega

/-- The word of HSAMP as a number (R44). -/
theorem encode_hsamp_toNat (cnt : ByteCount) (b0 b1 b2 : Byte) :
    (encode (.hsamp cnt b0 b1 b2)).toNat =
      0x40000000 + cnt.toNat * 0x4000000 + b0.toNat * 0x10000 + b1.toNat * 0x100 + b2.toNat := by
  have h1 : (encode (.hsamp cnt b0 b1 b2)).toNat = _ :=
    toNat_concat (0x4#4 ++ cnt ++ 0#2 ++ b0 ++ b1) b2
  simp only [h1, toNat_concat, BitVec.toNat_ofNat]
  omega

/-- The word of RDREG as a number (R45). -/
theorem encode_rdreg_toNat (reg : RegNum) : (encode (.rdreg reg)).toNat = 0x50000000 + reg.toNat := by
  have h1 : (encode (.rdreg reg)).toNat = _ := toNat_concat (0x5#4 ++ 0#24) reg
  simp only [h1, toNat_concat, BitVec.toNat_ofNat]
  omega

/-- Whatever decodes is a well-formed command (R47). -/
theorem decode_wf {w : CmdWord} {i : Instr} (h : decode w = .ok i) : i.wf = true := by
  unfold decode at h
  repeat' split at h
  all_goals first
    | (injection h with h; subst h; first | rfl | assumption)
    | cases h

/-! ### The fields of a word as numbers -/

theorem fieldOp_eq_iff (w : CmdWord) (k : BitVec 4) : fieldOp w = k ↔ w.toNat / 2 ^ 28 = k.toNat := by
  have := w.isLt
  rw [← BitVec.toNat_inj, fieldOp, toNat_field]
  omega

theorem reservedN_eq_zero_iff (w : CmdWord) : reservedN w = 0 ↔ w.toNat % 2 ^ 28 = 0 := by
  rw [← BitVec.toNat_inj, reservedN, toNat_field]
  simp

theorem reservedC_eq_zero_iff (w : CmdWord) : reservedC w = 0 ↔ w.toNat / 2 ^ 24 % 16 = 0 := by
  rw [← BitVec.toNat_inj, reservedC, toNat_field]
  simp

theorem reservedS_eq_zero_iff (w : CmdWord) : reservedS w = 0 ↔ w.toNat / 2 ^ 24 % 4 = 0 := by
  rw [← BitVec.toNat_inj, reservedS, toNat_field]
  simp

theorem reservedR_eq_zero_iff (w : CmdWord) : reservedR w = 0 ↔ w.toNat / 2 ^ 4 % 2 ^ 24 = 0 := by
  rw [← BitVec.toNat_inj, reservedR, toNat_field]
  simp

theorem fieldB0_eq (w : CmdWord) : fieldB0 w = BitVec.ofNat 8 (w.toNat / 2 ^ 16) := by
  apply BitVec.eq_of_toNat_eq
  rw [fieldB0, toNat_field, BitVec.toNat_ofNat]

theorem fieldB1_eq (w : CmdWord) : fieldB1 w = BitVec.ofNat 8 (w.toNat / 2 ^ 8) := by
  apply BitVec.eq_of_toNat_eq
  rw [fieldB1, toNat_field, BitVec.toNat_ofNat]

theorem fieldB2_eq (w : CmdWord) : fieldB2 w = BitVec.ofNat 8 w.toNat := by
  apply BitVec.eq_of_toNat_eq
  rw [fieldB2, toNat_field, BitVec.toNat_ofNat]
  simp

theorem fieldCnt_eq (w : CmdWord) : fieldCnt w = BitVec.ofNat 2 (w.toNat / 2 ^ 26) := by
  apply BitVec.eq_of_toNat_eq
  rw [fieldCnt, toNat_field, BitVec.toNat_ofNat]

theorem fieldReg_eq (w : CmdWord) : fieldReg w = BitVec.ofNat 4 w.toNat := by
  apply BitVec.eq_of_toNat_eq
  rw [fieldReg, toNat_field, BitVec.toNat_ofNat]
  simp

/-- Decoding with every test on the number of the word, so that `omega` decides the branch. -/
theorem decode_eq (w : CmdWord) : decode w =
    (if w.toNat / 2 ^ 28 = 1 then
      if w.toNat / 2 ^ 24 % 16 = 0 then .ok (.crcchk (fieldB0 w) (fieldB1 w) (fieldB2 w))
      else .error (.reservedBits 1)
    else if w.toNat / 2 ^ 28 = 2 then
      if w.toNat % 2 ^ 28 = 0 then .ok .mbegin else .error (.reservedBits 2)
    else if w.toNat / 2 ^ 28 = 3 then
      if w.toNat / 2 ^ 24 % 4 = 0 then .ok (.tsamp (fieldCnt w) (fieldB0 w) (fieldB1 w) (fieldB2 w))
      else .error (.reservedBits 3)
    else if w.toNat / 2 ^ 28 = 4 then
      if w.toNat / 2 ^ 24 % 4 = 0 then .ok (.hsamp (fieldCnt w) (fieldB0 w) (fieldB1 w) (fieldB2 w))
      else .error (.reservedBits 4)
    else if w.toNat / 2 ^ 28 = 5 then
      if w.toNat / 2 ^ 4 % 2 ^ 24 = 0 then
        if regReadable (fieldReg w) then .ok (.rdreg (fieldReg w))
        else .error (.reservedRegister (fieldReg w))
      else .error (.reservedBits 5)
    else .error (.reservedOpcode (fieldOp w))) := by
  have e1 : (0x1 : BitVec 4).toNat = 1 := rfl
  have e2 : (0x2 : BitVec 4).toNat = 2 := rfl
  have e3 : (0x3 : BitVec 4).toNat = 3 := rfl
  have e4 : (0x4 : BitVec 4).toNat = 4 := rfl
  have e5 : (0x5 : BitVec 4).toNat = 5 := rfl
  simp only [decode, fieldOp_eq_iff, e1, e2, e3, e4, e5, reservedN_eq_zero_iff, reservedC_eq_zero_iff,
    reservedS_eq_zero_iff, reservedR_eq_zero_iff]

end Sys2Proof
end

