-- ==== Sys2Proof/Laws/Operands.lean ====
section
/-! SUPPORT. Which numbers name a register (spec/10_state.md rule R17), and when a sample is complete. -/

namespace Sys2Proof.Machine

/-- A number names a register exactly when RDREG may name it (R17, R47). -/
theorem regOf_isSome (n : RegNum) : (regOf n).isSome = regReadable n := by
  revert n; decide

@[simp] theorem sampleComplete_iff (cnt : ByteCount) : sampleComplete cnt = true ↔ cnt = 3 := by
  revert cnt; decide

@[simp] theorem sampleComplete_false_iff (cnt : ByteCount) : sampleComplete cnt = false ↔ cnt ≠ 3 := by
  revert cnt; decide

@[simp] theorem readReg_status (s : State) : readReg .status s = statusWord s := rfl
@[simp] theorem readReg_tFx (s : State) : readReg .tFx s = s.tFx.getD 0 := rfl
@[simp] theorem readReg_hFx (s : State) : readReg .hFx s = s.hFx.getD 0 := rfl
@[simp] theorem readReg_krom (i : Fin 8) (s : State) : readReg (.krom i) s = krom i := rfl

end Sys2Proof.Machine
end

