-- ==== Sys2Proof/Laws/Flags.lean ====
section
/-! SUPPORT. The status views as numbers, the fields a host reads from a response word (spec/30_encoding.md rule
R50), and the error codes (R52). -/

namespace Sys2Proof.Machine

variable (ok : Bool) (err : ErrCode) (d : DataWord) (s : State)

theorem stateBits_toNat :
    (stateBits s).toNat = s.phase.code.toNat * 4 + s.hv.toNat * 2 + s.tv.toNat := by
  have h1 : (stateBits s).toNat = _ := toNat_concat (s.phase.code ++ BitVec.ofBool s.hv) (BitVec.ofBool s.tv)
  have h2 := toNat_concat s.phase.code (BitVec.ofBool s.hv)
  rw [h1, h2, BitVec.toNat_ofBool, BitVec.toNat_ofBool]
  omega

theorem statusWord_toNat : (statusWord s).toNat = (stateBits s).toNat := by
  have h : (statusWord s).toNat = _ := toNat_concat (0#28) (stateBits s)
  simpa using h

theorem statusByte_toNat :
    (statusByte ok err s).toNat = ok.toNat * 128 + err.code.toNat * 16 + (stateBits s).toNat := by
  have h1 : (statusByte ok err s).toNat = _ := toNat_concat (BitVec.ofBool ok ++ err.code) (stateBits s)
  have h2 := toNat_concat (BitVec.ofBool ok) err.code
  rw [h1, h2, BitVec.toNat_ofBool]
  omega

theorem responseWord_toNat :
    (responseWord ok err d s).toNat = (statusByte ok err s).toNat * 2 ^ 32 + d.toNat :=
  toNat_concat (statusByte ok err s) d

/-- ERR never exceeds 4 (R52, R125). -/
theorem errCode_le (e : ErrCode) : e.code.toNat ≤ 4 := by cases e <;> decide

@[simp] theorem rspData_responseWord : rspData (responseWord ok err d s) = d := by
  apply BitVec.eq_of_toNat_eq
  rw [rspData, toNat_field, responseWord_toNat]
  omega

@[simp] theorem rspStatus_responseWord : rspStatus (responseWord ok err d s) = statusByte ok err s := by
  apply BitVec.eq_of_toNat_eq
  rw [rspStatus, toNat_field, responseWord_toNat]
  omega

@[simp] theorem rspState_responseWord : rspState (responseWord ok err d s) = stateBits s := by
  apply BitVec.eq_of_toNat_eq
  rw [rspState, toNat_field, responseWord_toNat, statusByte_toNat]
  omega

@[simp] theorem rspErr_responseWord : rspErr (responseWord ok err d s) = err.code := by
  apply BitVec.eq_of_toNat_eq
  have := errCode_le err
  rw [rspErr, toNat_field, responseWord_toNat, statusByte_toNat]
  omega

@[simp] theorem rspOk_responseWord : rspOk (responseWord ok err d s) = ok := by
  have := errCode_le err
  rw [rspOk, BitVec.getLsbD, Nat.testBit_eq_decide_div_mod_eq, responseWord_toNat, statusByte_toNat]
  cases ok <;> simp <;> omega

/-- ERR is 0 for NONE only (R125). -/
@[simp] theorem errCode_eq_zero (e : ErrCode) : e.code = 0 ↔ e = .noError := by cases e <;> decide

/-- A host reads back the error the block sent (R52). -/
@[simp] theorem errOfCode_code (e : ErrCode) : errOfCode e.code = some e := by cases e <;> rfl

/-- The state bits depend on PHASE, TV and HV alone (R50). -/
theorem stateBits_congr {s t : State} (hp : s.phase = t.phase) (ht : s.tv = t.tv) (hh : s.hv = t.hv) :
    stateBits s = stateBits t := by
  simp [stateBits, hp, ht, hh]

end Sys2Proof.Machine
end

