-- ==== Sys2Proof/Laws/State.lean ====
section
/-! SUPPORT. One lemma per field per update of State, each true by definition, so that no later proof unfolds a
record update. -/

namespace Sys2Proof.Machine

variable (s : State)

/-! ### State.setPhase -/

@[simp] theorem State.setPhase_phase (p : Phase) : (s.setPhase p).phase = p := rfl
@[simp] theorem State.setPhase_tv (p : Phase) : (s.setPhase p).tv = s.tv := rfl
@[simp] theorem State.setPhase_hv (p : Phase) : (s.setPhase p).hv = s.hv := rfl
@[simp] theorem State.setPhase_tFx (p : Phase) : (s.setPhase p).tFx = s.tFx := rfl
@[simp] theorem State.setPhase_hFx (p : Phase) : (s.setPhase p).hFx = s.hFx := rfl
@[simp] theorem State.setPhase_cmd (p : Phase) : (s.setPhase p).cmd = s.cmd := rfl
@[simp] theorem State.setPhase_rsp (p : Phase) : (s.setPhase p).rsp = s.rsp := rfl
@[simp] theorem State.setPhase_host (p : Phase) : (s.setPhase p).host = s.host := rfl
@[simp] theorem State.setPhase_taken (p : Phase) : (s.setPhase p).taken = s.taken := rfl

/-! ### State.storeT -/

@[simp] theorem State.storeT_phase (v : DataWord) : (s.storeT v).phase = s.phase := rfl
@[simp] theorem State.storeT_tv (v : DataWord) : (s.storeT v).tv = true := rfl
@[simp] theorem State.storeT_hv (v : DataWord) : (s.storeT v).hv = s.hv := rfl
@[simp] theorem State.storeT_tFx (v : DataWord) : (s.storeT v).tFx = some v := rfl
@[simp] theorem State.storeT_hFx (v : DataWord) : (s.storeT v).hFx = s.hFx := rfl
@[simp] theorem State.storeT_cmd (v : DataWord) : (s.storeT v).cmd = s.cmd := rfl
@[simp] theorem State.storeT_rsp (v : DataWord) : (s.storeT v).rsp = s.rsp := rfl
@[simp] theorem State.storeT_host (v : DataWord) : (s.storeT v).host = s.host := rfl
@[simp] theorem State.storeT_taken (v : DataWord) : (s.storeT v).taken = s.taken := rfl

/-! ### State.clearT -/

@[simp] theorem State.clearT_phase : s.clearT.phase = s.phase := rfl
@[simp] theorem State.clearT_tv : s.clearT.tv = false := rfl
@[simp] theorem State.clearT_hv : s.clearT.hv = s.hv := rfl
@[simp] theorem State.clearT_tFx : s.clearT.tFx = none := rfl
@[simp] theorem State.clearT_hFx : s.clearT.hFx = s.hFx := rfl
@[simp] theorem State.clearT_cmd : s.clearT.cmd = s.cmd := rfl
@[simp] theorem State.clearT_rsp : s.clearT.rsp = s.rsp := rfl
@[simp] theorem State.clearT_host : s.clearT.host = s.host := rfl
@[simp] theorem State.clearT_taken : s.clearT.taken = s.taken := rfl

/-! ### State.storeH -/

@[simp] theorem State.storeH_phase (v : DataWord) : (s.storeH v).phase = s.phase := rfl
@[simp] theorem State.storeH_tv (v : DataWord) : (s.storeH v).tv = s.tv := rfl
@[simp] theorem State.storeH_hv (v : DataWord) : (s.storeH v).hv = true := rfl
@[simp] theorem State.storeH_tFx (v : DataWord) : (s.storeH v).tFx = s.tFx := rfl
@[simp] theorem State.storeH_hFx (v : DataWord) : (s.storeH v).hFx = some v := rfl
@[simp] theorem State.storeH_cmd (v : DataWord) : (s.storeH v).cmd = s.cmd := rfl
@[simp] theorem State.storeH_rsp (v : DataWord) : (s.storeH v).rsp = s.rsp := rfl
@[simp] theorem State.storeH_host (v : DataWord) : (s.storeH v).host = s.host := rfl
@[simp] theorem State.storeH_taken (v : DataWord) : (s.storeH v).taken = s.taken := rfl

/-! ### State.clearH -/

@[simp] theorem State.clearH_phase : s.clearH.phase = s.phase := rfl
@[simp] theorem State.clearH_tv : s.clearH.tv = s.tv := rfl
@[simp] theorem State.clearH_hv : s.clearH.hv = false := rfl
@[simp] theorem State.clearH_tFx : s.clearH.tFx = s.tFx := rfl
@[simp] theorem State.clearH_hFx : s.clearH.hFx = none := rfl
@[simp] theorem State.clearH_cmd : s.clearH.cmd = s.cmd := rfl
@[simp] theorem State.clearH_rsp : s.clearH.rsp = s.rsp := rfl
@[simp] theorem State.clearH_host : s.clearH.host = s.host := rfl
@[simp] theorem State.clearH_taken : s.clearH.taken = s.taken := rfl

/-! ### State.hostDone -/

@[simp] theorem State.hostDone_phase : s.hostDone.phase = s.phase := rfl
@[simp] theorem State.hostDone_tv : s.hostDone.tv = s.tv := rfl
@[simp] theorem State.hostDone_hv : s.hostDone.hv = s.hv := rfl
@[simp] theorem State.hostDone_tFx : s.hostDone.tFx = s.tFx := rfl
@[simp] theorem State.hostDone_hFx : s.hostDone.hFx = s.hFx := rfl
@[simp] theorem State.hostDone_cmd : s.hostDone.cmd = s.cmd := rfl
@[simp] theorem State.hostDone_rsp : s.hostDone.rsp = s.rsp := rfl
@[simp] theorem State.hostDone_host : s.hostDone.host = s.host.tail := rfl
@[simp] theorem State.hostDone_taken : s.hostDone.taken = s.taken := rfl

/-! ### State.takeResponse -/

@[simp] theorem State.takeResponse_phase : s.takeResponse.phase = s.phase := rfl
@[simp] theorem State.takeResponse_tv : s.takeResponse.tv = s.tv := rfl
@[simp] theorem State.takeResponse_hv : s.takeResponse.hv = s.hv := rfl
@[simp] theorem State.takeResponse_tFx : s.takeResponse.tFx = s.tFx := rfl
@[simp] theorem State.takeResponse_hFx : s.takeResponse.hFx = s.hFx := rfl
@[simp] theorem State.takeResponse_cmd : s.takeResponse.cmd = s.cmd := rfl
@[simp] theorem State.takeResponse_rsp : s.takeResponse.rsp = none := rfl
@[simp] theorem State.takeResponse_host : s.takeResponse.host = s.host := rfl
@[simp] theorem State.takeResponse_taken : s.takeResponse.taken = s.taken ++ s.rsp.toList := rfl

/-! ### State.accept -/

@[simp] theorem State.accept_phase (w : CmdWord) : (s.accept w).phase = s.phase := rfl
@[simp] theorem State.accept_tv (w : CmdWord) : (s.accept w).tv = s.tv := rfl
@[simp] theorem State.accept_hv (w : CmdWord) : (s.accept w).hv = s.hv := rfl
@[simp] theorem State.accept_tFx (w : CmdWord) : (s.accept w).tFx = s.tFx := rfl
@[simp] theorem State.accept_hFx (w : CmdWord) : (s.accept w).hFx = s.hFx := rfl
@[simp] theorem State.accept_cmd (w : CmdWord) : (s.accept w).cmd = some w := rfl
@[simp] theorem State.accept_rsp (w : CmdWord) : (s.accept w).rsp = s.rsp := rfl
@[simp] theorem State.accept_host (w : CmdWord) : (s.accept w).host = s.host := rfl
@[simp] theorem State.accept_taken (w : CmdWord) : (s.accept w).taken = s.taken := rfl

/-! ### respond -/

@[simp] theorem respond_phase (ok : Bool) (err : ErrCode) (d : DataWord) :
    (respond ok err d s).phase = s.phase := rfl
@[simp] theorem respond_tv (ok : Bool) (err : ErrCode) (d : DataWord) :
    (respond ok err d s).tv = s.tv := rfl
@[simp] theorem respond_hv (ok : Bool) (err : ErrCode) (d : DataWord) :
    (respond ok err d s).hv = s.hv := rfl
@[simp] theorem respond_tFx (ok : Bool) (err : ErrCode) (d : DataWord) :
    (respond ok err d s).tFx = s.tFx := rfl
@[simp] theorem respond_hFx (ok : Bool) (err : ErrCode) (d : DataWord) :
    (respond ok err d s).hFx = s.hFx := rfl
@[simp] theorem respond_cmd (ok : Bool) (err : ErrCode) (d : DataWord) :
    (respond ok err d s).cmd = none := rfl
@[simp] theorem respond_rsp (ok : Bool) (err : ErrCode) (d : DataWord) :
    (respond ok err d s).rsp = some (responseWord ok err d s) := rfl
@[simp] theorem respond_host (ok : Bool) (err : ErrCode) (d : DataWord) :
    (respond ok err d s).host = s.host := rfl
@[simp] theorem respond_taken (ok : Bool) (err : ErrCode) (d : DataWord) :
    (respond ok err d s).taken = s.taken := rfl

/-! ### resetBlock -/

@[simp] theorem resetBlock_phase : (resetBlock s).phase = .idle := rfl
@[simp] theorem resetBlock_tv : (resetBlock s).tv = false := rfl
@[simp] theorem resetBlock_hv : (resetBlock s).hv = false := rfl
@[simp] theorem resetBlock_tFx : (resetBlock s).tFx = none := rfl
@[simp] theorem resetBlock_hFx : (resetBlock s).hFx = none := rfl
@[simp] theorem resetBlock_cmd : (resetBlock s).cmd = none := rfl
@[simp] theorem resetBlock_rsp : (resetBlock s).rsp = none := rfl
@[simp] theorem resetBlock_host : (resetBlock s).host = s.host := rfl
@[simp] theorem resetBlock_taken : (resetBlock s).taken = s.taken := rfl

/-! ### loadCommand -/

@[simp] theorem loadCommand_phase (w : CmdWord) : (loadCommand w s).phase = s.phase := rfl
@[simp] theorem loadCommand_tv (w : CmdWord) : (loadCommand w s).tv = s.tv := rfl
@[simp] theorem loadCommand_hv (w : CmdWord) : (loadCommand w s).hv = s.hv := rfl
@[simp] theorem loadCommand_tFx (w : CmdWord) : (loadCommand w s).tFx = s.tFx := rfl
@[simp] theorem loadCommand_hFx (w : CmdWord) : (loadCommand w s).hFx = s.hFx := rfl
@[simp] theorem loadCommand_cmd (w : CmdWord) : (loadCommand w s).cmd = some w := rfl
@[simp] theorem loadCommand_rsp (w : CmdWord) : (loadCommand w s).rsp = none := rfl
@[simp] theorem loadCommand_host (w : CmdWord) : (loadCommand w s).host = afterResets s.host := rfl
@[simp] theorem loadCommand_taken (w : CmdWord) : (loadCommand w s).taken = s.taken := rfl

end Sys2Proof.Machine
end

