-- ==== Sys2Proof/Laws/Ops.lean ====
section
/-! SUPPORT. What the shared operations of Machine/Ops.lean can do, once each. -/

namespace Sys2Proof.Machine

/-- A command that succeeds answers OK with its data (R50). -/
theorem succeed_eq (d : DataWord) (s : State) : succeed d s = .next (respond true .noError d s) := rfl

/-- An error is an answer: OK = 0, its code, DATA = 0 (R120). -/
theorem raise_eq (e : ErrCode) (s : State) : raise e s = .next (respond false e 0 s) := rfl

/-- CRCCHK's failure answer carries the computed checksum (R62). -/
theorem raiseCrcWith_eq (d : DataWord) (s : State) : raiseCrcWith d s = .next (respond false .crc d s) := rfl

/-- The handshake changes none of the five items while no reset is asserted (R144). -/
theorem portStep_items (s : State) (h : resetAsserted s = false) :
    (portStep s).phase = s.phase ∧ (portStep s).tv = s.tv ∧ (portStep s).hv = s.hv ∧
      (portStep s).tFx = s.tFx ∧ (portStep s).hFx = s.hFx := by
  unfold portStep
  split <;> simp_all [resetAsserted]

/-- After a reset that follows nothing, the host's actions are the ones after it. -/
theorem resetAsserted_afterResets (s : State) (w : CmdWord) : resetAsserted (loadCommand w s) = false := by
  simp only [resetAsserted, loadCommand_host]
  induction s.host with
  | nil => rfl
  | cons a rest ih => cases a <;> simp_all [afterResets]

end Sys2Proof.Machine
end

