-- ==== Sys2Proof/Laws/Exec.lean ====
section
/-! SUPPORT. What each command can do, once: if it answers a next state, that state is one of these. -/

namespace Sys2Proof.Machine

/-- CRCCHK only answers (R62). -/
theorem execCrcchk_cases {b0 b1 b2 : Byte} {s t : State} (h : execCrcchk b0 b1 b2 s = .next t) :
    (crc8 b0 b1 = b2 ∧ t = respond true .noError (zext32 (crc8 b0 b1).toNat) s) ∨
      (crc8 b0 b1 ≠ b2 ∧ t = respond false .crc (zext32 (crc8 b0 b1).toNat) s) := by
  unfold execCrcchk at h
  split at h <;> simp_all [succeed_eq, raiseCrcWith_eq]

/-- MBEGIN always begins a cycle (R90). -/
theorem execMbegin_cases {s t : State} (h : execMbegin s = .next t) :
    t = respond true .noError 0 ((s.clearT.clearH).setPhase .wantT) := by
  simp_all [execMbegin, succeed_eq]

/-- TSAMP is refused, fails in one of two ways, or stores a temperature (R91). -/
theorem execTsamp_cases {cnt : ByteCount} {b0 b1 b2 : Byte} {s t : State}
    (h : execTsamp cnt b0 b1 b2 s = .next t) :
    (s.phase ≠ .wantT ∧ t = respond false .seq 0 s) ∨
    (s.phase = .wantT ∧ cnt ≠ 3 ∧ t = respond false .bus 0 (failT s)) ∨
    (s.phase = .wantT ∧ cnt = 3 ∧ crc8 b0 b1 ≠ b2 ∧ t = respond false .crc 0 (failT s)) ∨
    (s.phase = .wantT ∧ cnt = 3 ∧ crc8 b0 b1 = b2 ∧
      t = respond true .noError (sext32 (tconv (raw16 b0 b1)))
        ((s.storeT (sext32 (tconv (raw16 b0 b1)))).setPhase .wantH)) := by
  unfold execTsamp at h
  repeat' split at h
  all_goals simp_all [succeed_eq, raise_eq]

/-- HSAMP is refused, fails in one of two ways, or stores a humidity (R92; the refusal without a temperature is
notes/assumptions/3.md). -/
theorem execHsamp_cases {cnt : ByteCount} {b0 b1 b2 : Byte} {s t : State}
    (h : execHsamp cnt b0 b1 b2 s = .next t) :
    ((s.phase ≠ .wantH ∨ s.tv = false) ∧ t = respond false .seq 0 s) ∨
    (s.phase = .wantH ∧ s.tv = true ∧ cnt ≠ 3 ∧ t = respond false .bus 0 (failH s)) ∨
    (s.phase = .wantH ∧ s.tv = true ∧ cnt = 3 ∧ crc8 b0 b1 ≠ b2 ∧ t = respond false .crc 0 (failH s)) ∨
    (s.phase = .wantH ∧ s.tv = true ∧ cnt = 3 ∧ crc8 b0 b1 = b2 ∧ s.tFx = none ∧
      t = respond false .seq 0 s) ∨
    (∃ v, s.phase = .wantH ∧ s.tv = true ∧ cnt = 3 ∧ crc8 b0 b1 = b2 ∧ s.tFx = some v ∧
      t = respond true .noError (zext32 (hconv (raw16 b0 b1) v.toInt).toNat)
        ((s.storeH (zext32 (hconv (raw16 b0 b1) v.toInt).toNat)).setPhase .idle)) := by
  unfold execHsamp at h
  split_ifs at h with h1 h2 h3
  · exact .inl ⟨h1, by rw [raise_eq] at h; injection h with h; exact h.symm⟩
  all_goals
    have hp : s.phase = .wantH := by by_contra hp; exact h1 (.inl hp)
    have ht : s.tv = true := by
      cases hv : s.tv
      · exact absurd (.inr hv) h1
      · rfl
  · rw [raise_eq] at h
    injection h with h
    exact .inr (.inl ⟨hp, ht, by simpa using h2, h.symm⟩)
  · rw [raise_eq] at h
    injection h with h
    exact .inr (.inr (.inl ⟨hp, ht, by simpa using h2, by simpa using h3, h.symm⟩))
  · have hc : cnt = 3 := by simpa using h2
    have hk : crc8 b0 b1 = b2 := by simpa using h3
    split at h
    · next hn =>
      rw [raise_eq] at h
      injection h with h
      exact .inr (.inr (.inr (.inl ⟨hp, ht, hc, hk, hn, h.symm⟩)))
    · next v hv =>
      rw [succeed_eq] at h
      injection h with h
      exact .inr (.inr (.inr (.inr ⟨v, hp, ht, hc, hk, hv, h.symm⟩)))

/-- RDREG only answers (R110). -/
theorem execRdreg_cases {reg : RegNum} {s t : State} (h : execRdreg reg s = .next t) :
    (∃ r, regOf reg = some r ∧ t = respond true .noError (readReg r s) s) ∨
      (regOf reg = none ∧ t = respond false .ill 0 s) := by
  unfold execRdreg at h
  split at h <;> simp_all [succeed_eq, raise_eq]

/-- TSAMP outside WANT_T is refused (R91). -/
theorem execTsamp_of_wrong_phase {cnt : ByteCount} {b0 b1 b2 : Byte} {s : State} (h : s.phase ≠ .wantT) :
    execTsamp cnt b0 b1 b2 s = .next (respond false .seq 0 s) := by
  rw [execTsamp, if_pos h, raise_eq]

/-- TSAMP of a short read (R91). -/
theorem execTsamp_of_short {cnt : ByteCount} {b0 b1 b2 : Byte} {s : State} (h : s.phase = .wantT)
    (hc : cnt ≠ 3) : execTsamp cnt b0 b1 b2 s = .next (respond false .bus 0 (failT s)) := by
  rw [execTsamp, if_neg (by simp [h]), if_pos (by simpa using hc), raise_eq]

/-- TSAMP of a complete sample with a wrong checksum (R91). -/
theorem execTsamp_of_mismatch {cnt : ByteCount} {b0 b1 b2 : Byte} {s : State} (h : s.phase = .wantT)
    (hc : cnt = 3) (hk : crc8 b0 b1 ≠ b2) :
    execTsamp cnt b0 b1 b2 s = .next (respond false .crc 0 (failT s)) := by
  rw [execTsamp, if_neg (by simp [h]), if_neg (by simp [hc]), if_pos (by simpa using hk), raise_eq]

/-- TSAMP of a good sample (R91). -/
theorem execTsamp_of_good {cnt : ByteCount} {b0 b1 b2 : Byte} {s : State} (h : s.phase = .wantT)
    (hc : cnt = 3) (hk : crc8 b0 b1 = b2) :
    execTsamp cnt b0 b1 b2 s = .next (respond true .noError (sext32 (tconv (raw16 b0 b1)))
      ((s.storeT (sext32 (tconv (raw16 b0 b1)))).setPhase .wantH)) := by
  rw [execTsamp, if_neg (by simp [h]), if_neg (by simp [hc]), if_neg (by simp [hk]), succeed_eq]

/-- HSAMP outside WANT_H, or without TV, is refused (R92). -/
theorem execHsamp_of_wrong_phase {cnt : ByteCount} {b0 b1 b2 : Byte} {s : State}
    (h : s.phase ≠ .wantH ∨ s.tv = false) :
    execHsamp cnt b0 b1 b2 s = .next (respond false .seq 0 s) := by
  rw [execHsamp, if_pos h, raise_eq]

/-- HSAMP of a short read (R92). -/
theorem execHsamp_of_short {cnt : ByteCount} {b0 b1 b2 : Byte} {s : State} (h : s.phase = .wantH)
    (ht : s.tv = true) (hc : cnt ≠ 3) :
    execHsamp cnt b0 b1 b2 s = .next (respond false .bus 0 (failH s)) := by
  rw [execHsamp, if_neg (by simp [h, ht]), if_pos (by simpa using hc), raise_eq]

/-- HSAMP of a complete sample with a wrong checksum (R92). -/
theorem execHsamp_of_mismatch {cnt : ByteCount} {b0 b1 b2 : Byte} {s : State} (h : s.phase = .wantH)
    (ht : s.tv = true) (hc : cnt = 3) (hk : crc8 b0 b1 ≠ b2) :
    execHsamp cnt b0 b1 b2 s = .next (respond false .crc 0 (failH s)) := by
  rw [execHsamp, if_neg (by simp [h, ht]), if_neg (by simp [hc]), if_pos (by simpa using hk), raise_eq]

/-- HSAMP of a good sample with a temperature (R92). -/
theorem execHsamp_of_good {cnt : ByteCount} {b0 b1 b2 : Byte} {s : State} {v : DataWord}
    (h : s.phase = .wantH) (ht : s.tv = true) (hc : cnt = 3) (hk : crc8 b0 b1 = b2) (hv : s.tFx = some v) :
    execHsamp cnt b0 b1 b2 s = .next (respond true .noError (zext32 (hconv (raw16 b0 b1) v.toInt).toNat)
      ((s.storeH (zext32 (hconv (raw16 b0 b1) v.toInt).toNat)).setPhase .idle)) := by
  simp only [execHsamp, if_neg (show ¬(s.phase ≠ .wantH ∨ s.tv = false) by simp [h, ht]),
    if_neg (show ¬sampleComplete cnt = false by simp [hc]), if_neg (show ¬crcOk b0 b1 b2 = false by simp [hk]),
    hv, succeed_eq]

/-- Every command answers: it is one `respond` on a state whose ports and host are those before it (R50, R148). -/
theorem exec_responds (i : Instr) (s : State) :
    ∃ ok err d u, exec i s = .next (respond ok err d u) ∧ (ok = true ↔ err = .noError) ∧
      u.cmd = s.cmd ∧ u.rsp = s.rsp ∧ u.host = s.host ∧ u.taken = s.taken := by
  cases i with
  | crcchk b0 b1 b2 =>
    simp only [exec, execCrcchk]
    split
    · exact ⟨_, _, _, _, rfl, by decide, rfl, rfl, rfl, rfl⟩
    · exact ⟨_, _, _, _, rfl, by decide, rfl, rfl, rfl, rfl⟩
  | mbegin => exact ⟨_, _, _, _, rfl, by decide, rfl, rfl, rfl, rfl⟩
  | tsamp cnt b0 b1 b2 =>
    simp only [exec, execTsamp]
    split_ifs <;> exact ⟨_, _, _, _, rfl, by decide, rfl, rfl, rfl, rfl⟩
  | hsamp cnt b0 b1 b2 =>
    simp only [exec, execHsamp]
    split_ifs
    on_goal 4 => split
    all_goals exact ⟨_, _, _, _, rfl, by decide, rfl, rfl, rfl, rfl⟩
  | rdreg reg =>
    simp only [exec, execRdreg]
    split <;> exact ⟨_, _, _, _, rfl, by decide, rfl, rfl, rfl, rfl⟩

end Sys2Proof.Machine
end

