-- ==== Sys2Proof/Laws/Formula.lean ====
section
/-! SUPPORT. The formula engine at the block's constants: each function as plain integer arithmetic
(spec/41_formula_engine.md rules R70 to R78). -/

namespace Sys2Proof.Machine

/-- STATUS_MASK drops the two status bits (R70). -/
theorem mask_low (b : Byte) : (b &&& 0xFC#8).toNat = 4 * (b.toNat / 4) := by
  revert b; decide

/-- The value of RAW16: the low two bits of the second byte are dropped (R70). -/
theorem raw16_toNat (b0 b1 : Byte) : (raw16 b0 b1).toNat = 256 * b0.toNat + 4 * (b1.toNat / 4) := by
  have h1 : (b1 &&& 0xFC#8).toNat < 2 ^ 8 := (b1 &&& 0xFC#8).isLt
  have h0 : b0.toNat < 2 ^ 8 := b0.isLt
  have hs : (b0.setWidth 16 <<< 8).toNat = 2 ^ 8 * b0.toNat := by
    simp [Nat.shiftLeft_eq, Nat.mul_comm]
    omega
  have hm : ((b1 &&& 0xFC#8).setWidth 16).toNat = (b1 &&& 0xFC#8).toNat := by
    rw [BitVec.toNat_setWidth]; omega
  rw [raw16, config_statusMask, BitVec.toNat_or, hs, hm, ← Nat.two_pow_add_eq_or_of_lt h1, mask_low]

/-- TCONV at the block's constants (R72). -/
theorem tconv_eq (raw : RawWord) : tconv raw = 17572 * raw.toNat - 307036160 := by
  simp [tconv]

/-- HUNC at the block's constants (R74). -/
theorem hunc_eq (raw : RawWord) : hunc raw = 15625 * raw.toNat - 49152000 := by
  simp [hunc]

/-- HCORR at the block's constants (R75). -/
theorem hcorr_eq (t : Int) : hcorr t = 3 * (t / 16) - 30720000 := by
  simp [hcorr]

/-- HCORR_LUT at the block's constants (R76). -/
theorem hcorrLut_eq (q : Code14) : hcorrLut q = 13179 * q.toNat - 88289280 := by
  simp [hcorrLut]

/-- HCLAMP at the block's constants (R77). -/
theorem hclamp_eq (x : Int) : hclamp x = min (max x 0) 819200000 := by
  simp [hclamp]

/-- The clamped humidity lies in the bounds, whatever is clamped (R77). -/
theorem hconv_bounds (rawH : RawWord) (t : Int) : 0 ≤ hconv rawH t ∧ hconv rawH t ≤ 819200000 := by
  simp only [hconv, hclamp_eq]
  omega

/-- CODE14 is the raw word without its two zero bits (R71). -/
theorem code14_toNat (raw : RawWord) : (code14 raw).toNat = raw.toNat / 4 := by
  have := raw.isLt
  simp [code14, BitVec.extractLsb'_toNat, Nat.shiftRight_eq_div_pow]
  omega

end Sys2Proof.Machine
end

