-- ==== Sys2Proof/Laws/PerInstr.lean ====
section
/-! SUPPORT. A statement about every instruction, one lemma per constructor: the opcode field of its word is its
own OP (spec/30_encoding.md rules R40 and R46). -/

namespace Sys2Proof.Laws.OpcodeField

/-- The opcodes of R46. -/
def opcode : Instr → Nat
  | .crcchk _ _ _ => 0x1
  | .mbegin => 0x2
  | .tsamp _ _ _ _ => 0x3
  | .hsamp _ _ _ _ => 0x4
  | .rdreg _ => 0x5

/-- OP = CMD[31:28] of the word of `i` is the opcode of `i` (R40, R46). -/
def Statement (i : Instr) : Prop := (fieldOp (encode i)).toNat = opcode i

theorem crcchk (b0 b1 b2 : Byte) : Statement (.crcchk b0 b1 b2) := by
  rw [Statement, fieldOp, toNat_field, encode_crcchk_toNat, opcode]
  omega

theorem mbegin : Statement .mbegin := by rw [Statement]; decide

theorem tsamp (cnt : ByteCount) (b0 b1 b2 : Byte) : Statement (.tsamp cnt b0 b1 b2) := by
  rw [Statement, fieldOp, toNat_field, encode_tsamp_toNat, opcode]
  omega

theorem hsamp (cnt : ByteCount) (b0 b1 b2 : Byte) : Statement (.hsamp cnt b0 b1 b2) := by
  rw [Statement, fieldOp, toNat_field, encode_hsamp_toNat, opcode]
  omega

theorem rdreg (reg : RegNum) : Statement (.rdreg reg) := by
  rw [Statement, fieldOp, toNat_field, encode_rdreg_toNat, opcode]
  omega

end Sys2Proof.Laws.OpcodeField
end

