-- ==== Sys2Proof/Laws/Step.lean ====
section
/-! SUPPORT. What one step can do, once: a reset, the execution of the command in the block, or the handshake
(spec/70_reset_and_hazards.md rules R140 and R144). -/

namespace Sys2Proof.Machine

/-- The three kinds of step. -/
theorem step_cases {s t : State} (h : step s = .next t) :
    (resetAsserted s = true ∧ t = (resetBlock s).hostDone) ∨
    (resetAsserted s = false ∧ ∃ w, s.cmd = some w ∧ execWord w s = .next t) ∨
    (resetAsserted s = false ∧ s.cmd = none ∧ t = portStep s) := by
  unfold step at h
  split at h
  · left; simp_all
  · split at h <;> simp_all

/-- Executing a word is executing the command it decodes to, or the refusal of an illegal word (R47, R48). -/
theorem execWord_cases (w : CmdWord) (s : State) :
    (∃ i, decode w = .ok i ∧ execWord w s = exec i s) ∨
      ((∃ e, decode w = .error e) ∧ execWord w s = .next (respond false .ill 0 s)) := by
  unfold execWord
  split
  · next i h => exact .inl ⟨i, h, rfl⟩
  · next e h => exact .inr ⟨⟨e, h⟩, rfl⟩

/-- Reset drives the step, whatever else stands at the ports (R140). -/
theorem step_of_reset {s : State} (h : resetAsserted s = true) : step s = .next (resetBlock s).hostDone := by
  simp [step, h]

end Sys2Proof.Machine
end

