-- ==== Sys2Proof/Tests/Slice0.lean ====
section
/-! SUPPORT. Tests of the model against words, values and rows that spec/ gives (each test names its source), and
for every statement with hypotheses a witness that meets them. -/

open Sys2Proof Sys2Proof.Machine Sys2Proof.Claims

namespace Sys2Proof.Tests

/-! ### The states of spec/95_test_vectors.md section 5 -/

/-- State A: after MBEGIN. -/
def stA : State := { State.reset with phase := .wantT }

/-- State B: A, then the good temperature sample. -/
def stB : State := { State.reset with phase := .wantH, tv := true, tFx := some 161784800 }

/-- State C: B, then the good humidity sample. -/
def stC : State :=
  { State.reset with tv := true, hv := true, tFx := some 161784800, hFx := some 264525150 }

/-- The outcome is a next state with `p`. -/
def check (o : Host.Outcome State Fault Refusal) (p : State → Bool) : Bool :=
  match o with
  | .next t => p t
  | _ => false

theorem exists_of_check {o : Host.Outcome State Fault Refusal} {p : State → Bool} (h : check o p = true) :
    ∃ t, o = .next t ∧ p t = true := by
  cases o with
  | next t => exact ⟨t, rfl, h⟩
  | fault _ => cases h
  | refused _ => cases h

/-- The first step from `s` with the word `w` in the block answers `r` and leaves the five items of `u`. -/
def answers (s : State) (w : Nat) (r : RspWord) (u : State) : Bool :=
  check (step (s.withFetchWord 32 w)) fun t => decide (t.rsp = some r ∧ items t = items u)

/-! ### Well-formedness: each check refuses an ill-formed term (R47, R48) -/

theorem test_wf_refuses_reserved_registers :
    (Instr.rdreg 3).wf = false ∧ (Instr.rdreg 4).wf = false ∧ (Instr.rdreg 5).wf = false ∧
      (Instr.rdreg 6).wf = false ∧ (Instr.rdreg 7).wf = false := by decide

theorem test_wf_accepts_the_map :
    ∀ n : Fin 16, (Instr.rdreg (BitVec.ofNat 4 n.val)).wf = true ↔ n.val ∈ [0, 1, 2, 8, 9, 10, 11, 12, 13, 14, 15] := by
  decide

/-! ### Words written out from the formats of 30_encoding.md section 1, bit by bit -/

theorem test_decode_crcchk :
    decode 0b0001_0000_01100100_01101010_10110110 = .ok (.crcchk 0x64 0x6A 0xB6) := by decide

theorem test_decode_mbegin : decode 0b0010_0000000000000000000000000000 = .ok .mbegin := by decide

theorem test_decode_tsamp :
    decode 0b0011_10_00_01101000_00111010_01111100 = .ok (.tsamp 2 0x68 0x3A 0x7C) := by decide

theorem test_decode_hsamp :
    decode 0b0100_01_00_01001110_10000101_01101011 = .ok (.hsamp 1 0x4E 0x85 0x6B) := by decide

theorem test_decode_rdreg : decode 0b0101_000000000000000000000000_1101 = .ok (.rdreg 13) := by decide

/-- Encoding examples of 30_encoding.md section 6. -/
theorem test_encode_examples :
    encode (.crcchk 0x64 0x6A 0xB6) = 0x10646AB6 ∧ encode .mbegin = 0x20000000 ∧
      encode (.tsamp 3 0x68 0x3A 0x7C) = 0x3C683A7C ∧ encode (.tsamp 2 0x68 0x3A 0x7C) = 0x38683A7C ∧
      encode (.hsamp 3 0x4E 0x85 0x6B) = 0x4C4E856B ∧ encode (.rdreg 13) = 0x5000000D := by decide

/-- The pseudo-instructions of R55. -/
theorem test_pseudo_instructions :
    encode .rdstat = 0x50000000 ∧ encode .rdt = 0x50000001 ∧ encode .rdh = 0x50000002 := by decide

/-- Illegal words of 95_test_vectors.md sections 5 and 6, refused by name. -/
theorem test_decode_illegal :
    decode 0x00000000 = .error (.reservedOpcode 0) ∧ decode 0xFFFFFFFF = .error (.reservedOpcode 15) ∧
      decode 0x60000000 = .error (.reservedOpcode 6) ∧ decode 0x18000000 = .error (.reservedBits 1) ∧
      decode 0x11646AB6 = .error (.reservedBits 1) ∧ decode 0x20000001 = .error (.reservedBits 2) ∧
      decode 0x3D000000 = .error (.reservedBits 3) ∧ decode 0x4E4E856B = .error (.reservedBits 4) ∧
      decode 0x50000011 = .error (.reservedBits 5) ∧ decode 0x50000003 = .error (.reservedRegister 3) := by decide

/-- The rows of opcode_table.json, by their bits. -/
theorem test_decode_table_words :
    decodeTableWord 32 0x10000000 = some (.crcchk 0 0 0) ∧ decodeTableWord 32 0x20000000 = some .mbegin ∧
      decodeTableWord 32 0x30000000 = some (.tsamp 0 0 0 0) ∧ decodeTableWord 32 0x40000000 = some (.hsamp 0 0 0 0) ∧
      decodeTableWord 32 0x50000000 = some (.rdreg 0) := by decide

/-! ### CRC8 (95_test_vectors.md section 2.1) and the formulas (sections 3 and 4) -/

set_option maxRecDepth 20000 in
theorem test_crc_vectors :
    crc8 0x00 0x01 = 0x31 ∧ crc8 0x80 0x00 = 0x23 ∧ crc8 0xFF 0xFC = 0x7E ∧ crc8 0x64 0x6A = 0xB6 ∧
      crc8 0x68 0x3A = 0x7C ∧ crc8 0x4E 0x85 = 0x6B := by decide

theorem test_tconv_vectors :
    tconv (raw16 0x00 0x03) = -307036160 ∧ tconv (raw16 0x44 0x40) = -18176 ∧
      tconv (raw16 0x6E 0x92) = 190321728 ∧ tconv (raw16 0xFF 0xFF) = 844492144 := by decide

theorem test_hconv_vectors :
    hconv (raw16 0x00 0x00) (-307036160) = 0 ∧ hconv (raw16 0x00 0x00) 844492144 = 78470277 ∧
      hconv (raw16 0x0C 0x64) 161784800 = 25150 ∧ hconv (raw16 0xD9 0x2C) 161784800 = 819150150 ∧
      hconv (raw16 0xD9 0x30) 161784800 = 819200000 := by decide

theorem test_lut_vectors :
    hcorrLut 1 = -88276101 ∧ hcorrLut 6699 = -3159 ∧ hcorrLut 6700 = 10020 := by decide

/-! ### One step of each command (95_test_vectors.md sections 2.3, 5 and 6) -/

set_option maxRecDepth 20000 in
theorem test_crcchk_passes_in_an_open_cycle : answers stB 0x10646AB6 0x89000000B6 stB = true := by decide

set_option maxRecDepth 20000 in
theorem test_crcchk_fails_with_the_checksum : answers State.reset 0x10656AB6 0x2000000042 State.reset = true := by
  decide

theorem test_mbegin_discards_both_readings : answers stC 0x20000000 0x8400000000 stA = true := by decide

set_option maxRecDepth 20000 in
theorem test_tsamp_stores : answers stA 0x3C683A7C 0x8909A4A3E0 stB = true := by decide

theorem test_tsamp_short_read_is_bus : answers stA 0x38683A00 0x1000000000 State.reset = true := by decide

set_option maxRecDepth 20000 in
theorem test_hsamp_stores : answers stB 0x4C4E856B 0x830FC4555E stC = true := by decide

set_option maxRecDepth 20000 in
theorem test_hsamp_mismatch_clears_both : answers stB 0x4C4E856A 0x2000000000 State.reset = true := by decide

theorem test_rdreg_reads_h : answers stC 0x50000002 0x830FC4555E stC = true := by decide

theorem test_rdreg_without_a_value : answers stA 0x50000001 0x8400000000 stA = true := by decide

theorem test_illegal_word_changes_nothing : answers stC 0x20000001 0x4300000000 stC = true := by decide

theorem test_first_step_from_reset : answers State.reset 0x5000000D 0x8030D40000 State.reset = true := by decide

/-! ### Witnesses of the statements' hypotheses: reset and the ports -/

/-- A state with a command in flight and reset asserted (ResetDiscardsTheCommandInFlight). -/
theorem test_witness_reset_in_flight :
    ∃ s : State, s.host = .reset :: [.take] ∧ s.rsp = none ∧ s.cmd = some 0x20000000 ∧ s.phase = .wantH :=
  ⟨{ stB with host := [.reset, .take], cmd := some 0x20000000 }, rfl, rfl, rfl, rfl⟩

/-- A response waits and reset is asserted (ResetDropsAWaitingResponse). -/
theorem test_witness_reset_with_a_response :
    ∃ s : State, s.host = .reset :: [] ∧ s.rsp = some 0x8400000000 :=
  ⟨{ stA with host := [.reset], rsp := some 0x8400000000 }, rfl, rfl⟩

/-- The three handshakes (PortsHoldOneCommandAtATime). -/
theorem test_witness_handshakes :
    (∃ s : State, s.cmd = none ∧ s.host = .issue 0x20000000 :: [] ∧ s.rsp = none) ∧
    (∃ s : State, s.cmd = none ∧ s.host = .issue 0x20000000 :: [] ∧ s.rsp = some 0x8400000000) ∧
    (∃ s : State, s.cmd = none ∧ s.host = .take :: [] ∧ s.rsp = some 0x8400000000) :=
  ⟨⟨{ stA with host := [.issue 0x20000000] }, rfl, rfl, rfl⟩,
   ⟨{ stA with host := [.issue 0x20000000], rsp := some 0x8400000000 }, rfl, rfl, rfl⟩,
   ⟨{ stA with host := [.take], rsp := some 0x8400000000 }, rfl, rfl, rfl⟩⟩

/-- The two idle steps (IdleBlockKeepsItsState). -/
theorem test_witness_idle :
    (∃ s : State, s.cmd = none ∧ s.host = []) ∧
    (∃ s : State, s.cmd = none ∧ s.host = .take :: [] ∧ s.rsp = none) :=
  ⟨⟨stC, rfl, rfl⟩, ⟨{ stC with host := [.take] }, rfl, rfl, rfl⟩⟩

/-- A word in the block executes (Executes, in every statement that has it). -/
theorem executes_load (w : CmdWord) (s : State) (h : s.host = []) : Executes (loadCommand w s) w := by
  constructor
  · simp [resetAsserted, loadCommand, h, afterResets]
  · rfl

/-- Each command's word in a block that executes it (StepRunsTheDecodedCommand). -/
theorem test_witness_step_runs :
    ∀ p ∈ [((0x10646AB6 : CmdWord), Instr.crcchk 0x64 0x6A 0xB6), (0x20000000, .mbegin),
      (0x3C683A7C, .tsamp 3 0x68 0x3A 0x7C), (0x4C4E856B, .hsamp 3 0x4E 0x85 0x6B), (0x5000000F, .rdreg 15)],
      Executes (loadCommand p.1 stB) p.1 ∧ decode p.1 = .ok p.2 :=
  fun p hp => ⟨executes_load p.1 stB rfl, by revert p; decide⟩

/-- Words for state B with their responses, one for each of the five codes. -/
def answersOfB : List (CmdWord × RspWord) :=
  [(0x20000000, 0x8400000000), (0x484E856B, 0x1000000000), (0x4C4E856A, 0x2000000000),
    (0x3C683A7C, 0x3900000000), (0x3D683A7C, 0x4900000000)]

theorem answersOfB_right {p : CmdWord × RspWord} (hp : p ∈ answersOfB) :
    ∃ t, step (loadCommand p.1 stB) = .next t ∧ t.rsp = some p.2 := by
  have all : (answersOfB.all fun p =>
      check (step (loadCommand p.1 stB)) (fun t => decide (t.rsp = some p.2))) = true := by decide +kernel
  obtain ⟨t, h1, h2⟩ := exists_of_check (List.all_eq_true.mp all p hp)
  exact ⟨t, h1, of_decide_eq_true h2⟩

/-- An executed word with its next state and response (EveryStepAnswers, ResponseWordLayoutAndOneResponse,
ErrorCodesAreTheFive), once for each of the five codes. -/
theorem test_witness_answered :
    ∀ p ∈ answersOfB, ∃ t, Executes (loadCommand p.1 stB) p.1 ∧ step (loadCommand p.1 stB) = .next t ∧
      t.rsp = some p.2 := by
  intro p hp
  obtain ⟨t, h1, h2⟩ := answersOfB_right hp
  exact ⟨t, executes_load p.1 stB rfl, h1, h2⟩

/-! ### States of the block -/

/-- State B meets the invariant. -/
theorem inv_stB : BlockInv stB where
  triple := by decide
  marks := ⟨rfl, rfl⟩
  temperature := by
    intro t h
    exact ⟨0x68, 0x3A, by injection h with h; rw [← h]; decide⟩
  humidity := by intro h hh; cases hh
  oneCommand := .inl rfl
  response := by intro r hr; cases hr

/-- State C meets the invariant. -/
theorem inv_stC : BlockInv stC where
  triple := by decide
  marks := ⟨rfl, rfl⟩
  temperature := by
    intro t h
    exact ⟨0x68, 0x3A, by injection h with h; rw [← h]; decide⟩
  humidity := by
    intro h hh
    exact ⟨161784800, 0x4E, 0x85, rfl, by injection hh with hh; rw [← hh]; decide⟩
  oneCommand := .inl rfl
  response := by intro r hr; cases hr

/-- The invariant reads neither the host's side nor a command that comes in while no response waits. -/
theorem inv_load {s : State} (h : BlockInv s) (w : CmdWord) : BlockInv (loadCommand w s) :=
  ⟨h.triple, h.marks, h.temperature, h.humidity, .inr rfl, by intro r hr; cases hr⟩

/-- A state of the block that executes a word to a response (ResponseStatusIsOneOfTheListed,
EveryStepKeepsTheInvariant). -/
theorem test_witness_invariant_step :
    ∃ s t r, BlockInv s ∧ Executes s 0x50000001 ∧ step s = .next t ∧ t.rsp = some r := by
  obtain ⟨t, h1, h2⟩ := exists_of_check
    (show check (step (loadCommand 0x50000001 stC)) (fun t => t.rsp.isSome) = true by decide)
  obtain ⟨r, hr⟩ := Option.isSome_iff_exists.mp h2
  exact ⟨_, t, r, inv_load inv_stC _, executes_load _ _ rfl, h1, hr⟩

/-- Reachability is kept by any number of steps. -/
theorem reachable_steps (n : Nat) (s t : State) (hs : Reachable s) (h : steps n s = .next t) : Reachable t := by
  induction n generalizing s with
  | zero =>
    injection h with h
    exact h ▸ hs
  | succ n ih =>
    unfold steps at h
    cases hn : step s with
    | next u =>
      rw [hn] at h
      exact ih u (.step hs hn) h
    | fault f => cases f
    | refused f => rw [hn] at h; cases h

/-- Reachable states with a temperature and a humidity, and with each of the four triples of R14
(StatusShowsTheFlagsAndThePhase, ReachableTriplesAreTheFour, ReachableReadingsAreMarkedAndInRange,
ReachableTemperaturesAreMultiplesOfSixteen). -/
theorem test_witness_reachable :
    ∀ p ∈ [(0, State.reset), (3, stA), (6, stB), (9, stC)], ∃ s, Reachable s ∧ items s = items p.2 := by
  intro p hp
  have h : check (steps p.1 { State.reset with host := waitingHost [0x20000000, 0x3C683A7C, 0x4C4E856B] })
      (fun t => decide (items t = items p.2)) = true := by
    revert p
    decide +kernel
  obtain ⟨t, h1, h2⟩ := exists_of_check h
  exact ⟨t, reachable_steps _ _ _ (.host _ .reset) h1, of_decide_eq_true h2⟩

/-! ### Encoding -/

/-- Well-formed commands at the ends of their ranges (DecodeOfEncode), and words that decode (EncodeOfDecode). -/
theorem test_witness_wf :
    (∀ i ∈ [Instr.crcchk 0xFF 0 0xFF, .mbegin, .tsamp 0 0 0 0, .hsamp 3 0xFF 0xFF 0xFF, .rdreg 0, .rdreg 2,
      .rdreg 8, .rdreg 15], i.wf = true) ∧
    decode 0x4CFFFF2D = .ok (.hsamp 3 0xFF 0xFF 0x2D) ∧ decode 0x50000002 = .ok (.rdreg 2) := by decide

/-- A word for every clause of DecodeSelectsTheTableRow, the register ranges at their ends. -/
theorem test_witness_rows :
    (0x10FFFF2D : CmdWord) &&& 0xFF000000 = 0x10000000 ∧ (0x20000000 : CmdWord) &&& 0xFFFFFFFF = 0x20000000 ∧
    (0x3CFFFF2D : CmdWord) &&& 0xF3000000 = 0x30000000 ∧ (0x40000000 : CmdWord) &&& 0xF3000000 = 0x40000000 ∧
    ([0x50000000, 0x50000002, 0x50000008, 0x5000000F].all fun w : CmdWord => decide (w &&& 0xFFFFFFF0 = 0x50000000 ∧
      ((BitVec.ofNat 4 w.toNat).toNat ≤ 2 ∨ 8 ≤ (BitVec.ofNat 4 w.toNat).toNat))) = true ∧
    ([0x50000003, 0x50000007].all fun w : CmdWord => decide (w &&& 0xFFFFFFF0 = 0x50000000 ∧
      3 ≤ (BitVec.ofNat 4 w.toNat).toNat ∧ (BitVec.ofNat 4 w.toNat).toNat ≤ 7)) = true ∧
    ([0x00000000, 0x18000000, 0x20000001, 0x3D000000, 0x42000000, 0x50000010, 0xFFFFFFFF].all fun w : CmdWord =>
      decide (w &&& 0xFF000000 ≠ 0x10000000 ∧ w &&& 0xFFFFFFFF ≠ 0x20000000 ∧ w &&& 0xF3000000 ≠ 0x30000000 ∧
        w &&& 0xF3000000 ≠ 0x40000000 ∧ w &&& 0xFFFFFFF0 ≠ 0x50000000)) = true := by decide

/-- Illegal words of every kind of R48. -/
def illegalWords : List CmdWord :=
  [0x00000000, 0xFFFFFFFF, 0x11000000, 0x20000001, 0x31000000, 0x42000000, 0x50000010, 0x50000003, 0x50000007]

/-- Illegal words in a block that executes them (IllegalWordsAreTheseAndAreRefused, ErrorPriorityIsIllSeqBusCrc). -/
theorem test_witness_illegal :
    ∀ w ∈ illegalWords, Executes (loadCommand w stA) w ∧ ∀ i, decode w ≠ .ok i := by
  intro w hw
  have all : (illegalWords.all fun w => decide ((decode w).toOption = none)) = true := by decide
  have h := of_decide_eq_true (List.all_eq_true.mp all w hw)
  refine ⟨executes_load w stA rfl, fun i hi => ?_⟩
  rw [hi] at h
  cases h

/-! ### The validator and the formula engine -/

/-- A sample that passes, with the first and the last bit index (CrcLinearAndSensitiveToEveryBit). -/
theorem test_witness_crc_pass : crcOk 0x64 0x6A 0xB6 = true ∧ 0 < 8 ∧ 7 < 8 := by decide +kernel

/-- Both outcomes of the checksum (CrcchkAnswersTheChecksum). -/
theorem test_witness_crcchk : crc8 0xFF 0xFF = 0x2D ∧ crc8 0x65 0x6A ≠ 0xB6 := by decide +kernel

/-- Low bytes that differ in the status bits only (StatusBitsReachOnlyTheChecksum). -/
theorem test_witness_status_bits :
    (0x38 : Byte).toNat / 4 = (0x3B : Byte).toNat / 4 ∧ (0x00 : Byte).toNat / 4 = (0x03 : Byte).toNat / 4 ∧
      (0xFC : Byte).toNat / 4 = (0xFF : Byte).toNat / 4 := by decide

/-- Two raw words in order (TemperatureCountsAreMultiplesOfSixteen). -/
theorem test_witness_raw_order : (0x0000 : RawWord).toNat < (0x0004 : RawWord).toNat := by decide

/-- The last temperature below 25 degrees and the first above (CorrectionIsTheDocumentTerm); values from
95_test_vectors.md section 3. -/
theorem test_witness_both_sides_of_25 :
    (tconv (raw16 0x68 0xAC) : ℚ) / 6553600 < 25 ∧ 25 < (tconv (raw16 0x68 0xB0) : ℚ) / 6553600 := by
  have h1 : tconv (raw16 0x68 0xAC) = 163823152 := by decide
  have h2 : tconv (raw16 0x68 0xB0) = 163893440 := by decide
  rw [h1, h2]
  norm_num

/-- Neighbouring codes at both ends of the table (CorrectionTableEqualsCorrection). -/
theorem test_witness_neighbours :
    (1 : Code14).toNat = (0 : Code14).toNat + 1 ∧ (16383 : Code14).toNat = (16382 : Code14).toNat + 1 := by decide

/-- Every clause of the clamp at its ends (ClampKeepsTheInclusiveRange). -/
theorem test_witness_clamp :
    (-1 : Int) < 0 ∧ (819200000 : Int) < 819200001 ∧ (0 : Int) ≤ 0 ∧ (819200000 : Int) ≤ 819200000 := by decide

/-! ### The measurement cycle -/

/-- Every clause of TsampFollowsItsRule. -/
theorem test_witness_tsamp :
    stB.phase ≠ .wantT ∧ (stA.phase = .wantT ∧ (0 : ByteCount) ≠ 3 ∧ (2 : ByteCount) ≠ 3) ∧
      (stA.phase = .wantT ∧ crc8 0x68 0x38 ≠ 0x7C) ∧ (stA.phase = .wantT ∧ crc8 0xFF 0xFF = 0x2D) := by
  decide +kernel

/-- A state of the block in WANT_T, with the counts and checksums of each clause (TsampAnswersAsItsRuleStates). -/
theorem test_witness_tsamp_in_the_block :
    stC.phase ≠ .wantT ∧ cycleTriple stA ∈ cycleTriples ∧ stA.phase = .wantT ∧ (0 : ByteCount) ≠ 3 ∧
      (2 : ByteCount) ≠ 3 ∧ crc8 0x68 0x3A ≠ 0x7D ∧ crc8 0x68 0x3A = 0x7C := by decide +kernel

/-- Every clause of HsampFollowsItsRule, with the least and the greatest temperature as well. -/
theorem test_witness_hsamp :
    (stA.phase ≠ .wantH ∧ ({ stB with tv := false } : State).tv ≠ true) ∧
      (stB.phase = .wantH ∧ stB.tv = true ∧ (0 : ByteCount) ≠ 3 ∧ (2 : ByteCount) ≠ 3) ∧
      (stB.phase = .wantH ∧ stB.tv = true ∧ crc8 0x4E 0x85 ≠ 0x6A) ∧
      (stB.phase = .wantH ∧ stB.tv = true ∧ crc8 0x4E 0x85 = 0x6B ∧ stB.tFx = some 161784800 ∧
        (161784800 : DataWord).toInt % 16 = 0) ∧
      (0xEDB30000 : DataWord).toInt % 16 = 0 ∧ (0x3255ED70 : DataWord).toInt % 16 = 0 := by decide +kernel

/-- TV = 1 with no temperature (HsampWithoutATemperatureIsRefused). -/
theorem test_witness_no_temperature :
    ∃ s : State, s.phase = .wantH ∧ s.tv = true ∧ s.tFx = none := ⟨{ stB with tFx := none }, rfl, rfl, rfl⟩

/-- The four triples with their marks, and the three commands (CycleCommandsFollowTheTransitionTable). -/
theorem test_witness_transitions :
    (∀ s ∈ [State.reset, stA, stB, stC], cycleTriple s ∈ cycleTriples ∧ s.tv = s.tFx.isSome ∧ s.hv = s.hFx.isSome) ∧
      Instr.hsamp 3 0x4E 0x85 0x6B ∈
        [Instr.mbegin, .tsamp 3 0x4E 0x85 0x6B, .hsamp 3 0x4E 0x85 0x6B] := by decide

/-- State A meets the invariant. -/
theorem inv_stA : BlockInv stA where
  triple := by decide
  marks := ⟨rfl, rfl⟩
  temperature := by intro t ht; cases ht
  humidity := by intro h hh; cases hh
  oneCommand := .inl rfl
  response := by intro r hr; cases hr

/-- A TSAMP that fails, and a step with no open cycle that is no MBEGIN (CycleEndsWithBothReadingsOrNone). -/
theorem test_witness_cycle_over :
    (∃ t r, BlockInv stA ∧ t.rsp = some r ∧ exec (.tsamp 2 0 0 0) stA = .next t ∧ okNum r = 0 ∧
      stA.phase = .wantT) ∧
    ∃ s t, s.phase = .idle ∧ step s = .next t ∧ resetAsserted s = false ∧ s.cmd = some 0x3C683A7C ∧
      decode 0x3C683A7C ≠ .ok .mbegin := by
  obtain ⟨t, h1, h2⟩ := exists_of_check
    (show check (exec (.tsamp 2 0 0 0) stA) (fun t => decide (t.rsp = some 0x1000000000)) = true by decide)
  obtain ⟨u, h3, _⟩ := exists_of_check
    (show check (step (loadCommand 0x3C683A7C stC)) (fun t => t.rsp.isSome) = true by decide)
  exact ⟨⟨t, _, inv_stA, of_decide_eq_true h2, h1, by decide, rfl⟩,
    ⟨_, u, rfl, h3, (executes_load _ stC rfl).1, rfl, by rw [show decode 0x3C683A7C = .ok (.tsamp 3 0x68 0x3A 0x7C) by decide]; simp⟩⟩

/-- An HSAMP that answers OK and one that fails (CycleEndsWithBothReadingsOrNone). -/
theorem test_witness_cycle_end :
    (∃ t r, BlockInv stB ∧ exec (.hsamp 3 0x4E 0x85 0x6B) stB = .next t ∧ t.rsp = some r ∧ okNum r = 1) ∧
    (∃ t r, BlockInv stB ∧ exec (.hsamp 0 0 0 0) stB = .next t ∧ t.rsp = some r ∧ okNum r = 0 ∧
      stB.phase = .wantH) := by
  obtain ⟨t, h1, h2⟩ := exists_of_check
    (show check (exec (.hsamp 3 0x4E 0x85 0x6B) stB) (fun t => decide (t.rsp = some 0x830FC4555E)) = true by
      decide +kernel)
  obtain ⟨u, h3, h4⟩ := exists_of_check
    (show check (exec (.hsamp 0 0 0 0) stB) (fun t => decide (t.rsp = some 0x1000000000)) = true by decide)
  exact ⟨⟨t, _, inv_stB, h1, of_decide_eq_true h2, by decide⟩,
    ⟨u, _, inv_stB, h3, of_decide_eq_true h4, by decide, rfl⟩⟩

/-- The words of a cycle, with an abandoned cycle before it, after which HSAMP computes a humidity
(HumidityUsesTheTemperatureOfItsOwnCycle). -/
theorem test_witness_own_cycle :
    ∃ t r, exec (.hsamp 3 0x4E 0x85 0x6B)
        (afterAll [0x20000000, 0x3CFFFF2D, 0x20000000, 0x50000001, 0x3C683A7C, 0x10646AB6] State.reset) = .next t ∧
      t.rsp = some r ∧ okNum r = 1 := by
  obtain ⟨t, h1, h2⟩ := exists_of_check
    (show check (exec (.hsamp 3 0x4E 0x85 0x6B)
        (afterAll [0x20000000, 0x3CFFFF2D, 0x20000000, 0x50000001, 0x3C683A7C, 0x10646AB6] State.reset))
      (fun t => decide (t.rsp = some 0x830FC4555E)) = true by decide +kernel)
  exact ⟨t, _, h1, of_decide_eq_true h2, by decide⟩

/-- A step that is no MBEGIN, TSAMP, HSAMP or reset, and a next state of every command
(ReadsAreIdempotentAndSamplesAreNot, CommandsKeepTheirFrames, KromHoldsTheEightConstants). -/
theorem test_witness_other_steps :
    (∃ s t, step s = .next t ∧ resetAsserted s = false ∧ s.cmd = some 0x5000000F ∧
      decode 0x5000000F = .ok (.rdreg 15)) ∧
    ∀ i ∈ [Instr.crcchk 0x64 0x6A 0xB6, .mbegin, .tsamp 3 0x68 0x3A 0x7C, .hsamp 3 0x4E 0x85 0x6B, .rdreg 1],
      ∃ t r, exec i stB = .next t ∧ t.rsp = some r := by
  constructor
  · obtain ⟨t, h1, _⟩ := exists_of_check
      (show check (step (loadCommand 0x5000000F stC)) (fun t => t.rsp.isSome) = true by decide)
    exact ⟨_, t, h1, (executes_load _ stC rfl).1, rfl, by decide⟩
  · intro i hi
    have h : check (exec i stB) (fun t => t.rsp.isSome) = true := by
      revert i
      decide +kernel
    obtain ⟨t, h1, h2⟩ := exists_of_check h
    obtain ⟨r, hr⟩ := Option.isSome_iff_exists.mp h2
    exact ⟨t, r, h1, hr⟩

/-- An HSAMP that answers OK in a frame (CommandsKeepTheirFrames). -/
theorem test_witness_frame_hsamp :
    ∃ t r, exec (.hsamp 3 0x4E 0x85 0x6B) stB = .next t ∧ t.rsp = some r ∧ okNum r = 1 := by
  obtain ⟨⟨t, r, _, h1, h2, h3⟩, _⟩ := test_witness_cycle_end
  exact ⟨t, r, h1, h2, h3⟩

/-- Samples outside their phase (SamplesOutsideTheirPhaseAreRefused, ErrorPriorityIsIllSeqBusCrc). -/
theorem test_witness_wrong_phase :
    State.reset.phase ≠ .wantT ∧ stB.phase ≠ .wantT ∧ stA.phase ≠ .wantH ∧
      ({ stB with tv := false } : State).phase = .wantH ∧ ({ stB with tv := false } : State).tv = false := by decide

/-- The conditions of each error, and none of them, with the answer (ErrorPriorityIsIllSeqBusCrc). -/
theorem test_witness_priority :
    (∃ t r, exec (.tsamp 2 0x68 0x3A 0x7C) stA = .next t ∧ t.rsp = some r ∧ stA.phase = .wantT ∧
      (2 : ByteCount) ≠ 3) ∧
    (∃ t r, exec (.hsamp 3 0x4E 0x85 0x6A) stB = .next t ∧ t.rsp = some r ∧ stB.phase = .wantH ∧
      stB.tv = true ∧ crc8 0x4E 0x85 ≠ 0x6A) := by
  obtain ⟨t, h1, h2⟩ := exists_of_check
    (show check (exec (.tsamp 2 0x68 0x3A 0x7C) stA) (fun t => decide (t.rsp = some 0x1000000000)) = true by decide)
  obtain ⟨u, h3, h4⟩ := exists_of_check
    (show check (exec (.hsamp 3 0x4E 0x85 0x6A) stB) (fun t => decide (t.rsp = some 0x2000000000)) = true by
      decide +kernel)
  exact ⟨⟨t, _, h1, of_decide_eq_true h2, rfl, by decide⟩,
    ⟨u, _, h3, of_decide_eq_true h4, rfl, rfl, by decide +kernel⟩⟩

/-- Short counts at both ends (BytesOfAShortReadAreIgnored). -/
theorem test_witness_short_counts : (0 : ByteCount).toNat < 3 ∧ (2 : ByteCount).toNat < 3 := by decide

/-- A sample that fails with BUS, one that fails with CRC, a SEQ refusal and an ILL refusal, in states of the block
(FailedSamplesLeaveNoReadings). -/
theorem test_witness_failures :
    ∀ p ∈ answersOfB.tail, ∃ t, BlockInv (loadCommand p.1 stB) ∧ Executes (loadCommand p.1 stB) p.1 ∧
      step (loadCommand p.1 stB) = .next t ∧ t.rsp = some p.2 := by
  intro p hp
  obtain ⟨t, h1, h2⟩ := answersOfB_right (List.mem_of_mem_tail hp)
  exact ⟨t, inv_load inv_stB _, executes_load _ _ rfl, h1, h2⟩

/-! ### Registers, flags and sequences -/

/-- The registers of every clause, the constants at both ends (RdregReadsTheNamedRegister). -/
theorem test_witness_registers :
    (0 < 8 ∧ (8 : RegNum).toNat = 8 + 0) ∧ (7 < 8 ∧ (15 : RegNum).toNat = 8 + 7) ∧ (0 : RegNum) = 0 ∧
      stC.tFx = some 161784800 ∧ stA.tFx = none := by decide

/-- Each flag set and each flag cleared, by a command and by reset (FlagsMoveOnlyWithTheirCommands,
OnlyCheckedSamplesSetAReading). -/
theorem test_witness_flags :
    (∃ t, step (loadCommand 0x3C683A7C stA) = .next t ∧ stA.tv = false ∧ t.tv = true ∧ t.tFx = some 161784800) ∧
    (∃ t, step (loadCommand 0x4C4E856B stB) = .next t ∧ stB.hv = false ∧ t.hv = true ∧ t.hFx = some 264525150) ∧
    (∃ t, step (loadCommand 0x20000000 stC) = .next t ∧ stC.tv = true ∧ t.tv = false ∧ stC.hv = true ∧
      t.hv = false) ∧
    (∃ t, step { stC with host := [.reset] } = .next t ∧ t.tv = false ∧ t.hv = false) := by
  obtain ⟨t, h1, h2⟩ := exists_of_check
    (show check (step (loadCommand 0x3C683A7C stA))
      (fun t => decide (t.tv = true ∧ t.tFx = some 161784800)) = true by decide +kernel)
  obtain ⟨u, h3, h4⟩ := exists_of_check
    (show check (step (loadCommand 0x4C4E856B stB))
      (fun t => decide (t.hv = true ∧ t.hFx = some 264525150)) = true by decide +kernel)
  obtain ⟨v, h5, h6⟩ := exists_of_check
    (show check (step (loadCommand 0x20000000 stC))
      (fun t => decide (t.tv = false ∧ t.hv = false)) = true by decide)
  obtain ⟨x, h7, h8⟩ := exists_of_check
    (show check (step { stC with host := [.reset] })
      (fun t => decide (t.tv = false ∧ t.hv = false)) = true by decide)
  have k2 := of_decide_eq_true h2
  have k4 := of_decide_eq_true h4
  have k6 := of_decide_eq_true h6
  exact ⟨⟨t, h1, rfl, k2⟩, ⟨u, h3, rfl, k4⟩, ⟨v, h5, rfl, k6.1, rfl, k6.2⟩, ⟨x, h7, of_decide_eq_true h8⟩⟩

/-- A free block with commands to come (CommandsTakeEffectInIssueOrder, WaitingForResponsesChangesNothing). -/
theorem test_witness_sequences :
    ∃ s : State, s.cmd = none ∧ s.rsp = none ∧
      s.host = waitingHost [0x20000000, 0x50000000] ++ [.reset] ∧ ([0x20000000, 0x50000000] : List CmdWord) ≠ [] :=
  ⟨{ stC with host := waitingHost [0x20000000, 0x50000000] ++ [.reset] }, rfl, rfl, rfl, by decide⟩

end Sys2Proof.Tests
end

section
/-! The five items of the block (spec/10_state.md): their invariant R10 to R14 and R95 over every reachable state,
STATUS as the number R15 gives it, and the constants R16 of KROM. -/

namespace Sys2Proof.Proofs
open Sys2Proof Sys2Proof.Machine Sys2Proof.Claims

variable {s t : State}

/-! ### The invariant of the five items -/

/-- The part of the block's invariant that speaks of the five items alone (R10 to R14, R95). -/
structure ItemsInv (s : State) : Prop where
  /-- R14. -/
  triple : cycleTriple s ∈ cycleTriples
  /-- R12, R13. -/
  marks : MarksRight s
  /-- R10, R12. -/
  temperature : TemperatureRight s
  /-- R13, R95. -/
  humidity : HumidityRight s

/-- The invariant reads nothing but the five items. -/
theorem itemsInv_of_items_eq (hs : ItemsInv s) (h : items t = items s) : ItemsInv t := by
  obtain ⟨hphase, htv, hhv, htFx, hhFx⟩ : t.phase = s.phase ∧ t.tv = s.tv ∧ t.hv = s.hv ∧
      t.tFx = s.tFx ∧ t.hFx = s.hFx := by simpa [items] using h
  obtain ⟨triple, marks, temperature, humidity⟩ := hs
  constructor
  · simpa [cycleTriple, hphase, htv, hhv] using triple
  · simpa [MarksRight, htv, hhv, htFx, hhFx] using marks
  · simpa [TemperatureRight, htFx] using temperature
  · simpa [HumidityRight, htFx, hhFx] using humidity

/-- A response shows the five items and writes none of them (R50). -/
@[simp] theorem items_respond (ok : Bool) (err : ErrCode) (d : DataWord) :
    items (respond ok err d s) = items s := rfl

theorem itemsInv_respond (ok : Bool) (err : ErrCode) (d : DataWord) (h : ItemsInv s) :
    ItemsInv (respond ok err d s) :=
  itemsInv_of_items_eq h (items_respond ok err d)

/-- No cycle past its temperature and no reading: the state after reset, MBEGIN and a failed sample. -/
theorem itemsInv_of_no_readings (hp : s.phase ≠ .wantH) (htv : s.tv = false) (hhv : s.hv = false)
    (ht : s.tFx = none) (hh : s.hFx = none) : ItemsInv s where
  triple := by cases h : s.phase <;> simp_all [cycleTriple, cycleTriples]
  marks := by simp [MarksRight, htv, hhv, ht, hh]
  temperature := by simp [TemperatureRight, ht]
  humidity := by simp [HumidityRight, hh]

/-- While a sample is awaited no humidity is held (R14, R13). -/
theorem ItemsInv.no_humidity (h : ItemsInv s) (hp : s.phase ≠ .idle) : s.hv = false ∧ s.hFx = none := by
  have hhv : s.hv = false := by
    have := h.triple
    cases hv : s.hv <;> simp_all [cycleTriple, cycleTriples]
  obtain ⟨-, hmark⟩ := h.marks
  exact ⟨hhv, by simpa [hhv] using hmark⟩

/-- MBEGIN discards both readings (R90). -/
theorem itemsInv_mbegin (s : State) : ItemsInv ((s.clearT.clearH).setPhase .wantT) :=
  itemsInv_of_no_readings (by simp) rfl rfl rfl rfl

/-- A TSAMP that fails leaves no reading: there was no humidity in WANT_T (R91). -/
theorem itemsInv_failT (h : ItemsInv s) (hp : s.phase = .wantT) : ItemsInv (failT s) := by
  obtain ⟨hhv, hhFx⟩ := h.no_humidity (by simp [hp])
  exact itemsInv_of_no_readings (by simp [failT]) rfl hhv rfl hhFx

/-- An HSAMP that fails discards both readings (R92). -/
theorem itemsInv_failH (s : State) : ItemsInv (failH s) :=
  itemsInv_of_no_readings (by simp [failH]) rfl rfl rfl rfl

/-- A good temperature sample (R91). -/
theorem itemsInv_storeT (h : ItemsInv s) (hp : s.phase = .wantT) (b0 b1 : Byte) :
    ItemsInv ((s.storeT (sext32 (tconv (raw16 b0 b1)))).setPhase .wantH) := by
  obtain ⟨hhv, hhFx⟩ := h.no_humidity (by simp [hp])
  constructor
  · simp [cycleTriple, cycleTriples, hhv]
  · simp [MarksRight, hhv, hhFx]
  · intro t ht
    exact ⟨b0, b1, by simpa using ht.symm⟩
  · simp [HumidityRight, hhFx]

/-- A good humidity sample, compensated with the temperature held (R92). -/
theorem itemsInv_storeH (h : ItemsInv s) {v : DataWord} (htv : s.tv = true) (hv : s.tFx = some v) (b0 b1 : Byte) :
    ItemsInv ((s.storeH (zext32 (hconv (raw16 b0 b1) v.toInt).toNat)).setPhase .idle) := by
  constructor
  · simp [cycleTriple, cycleTriples, htv]
  · simp [MarksRight, htv, hv]
  · simpa [TemperatureRight] using h.temperature
  · intro x hx
    exact ⟨v, b0, b1, hv, by simpa using hx.symm⟩

/-- Every command keeps the invariant. -/
theorem itemsInv_exec {i : Instr} (hs : ItemsInv s) (h : exec i s = .next t) : ItemsInv t := by
  cases i with
  | crcchk b0 b1 b2 =>
    obtain ⟨-, rfl⟩ | ⟨-, rfl⟩ := execCrcchk_cases h <;> exact itemsInv_respond _ _ _ hs
  | mbegin =>
    obtain rfl := execMbegin_cases h
    exact itemsInv_respond _ _ _ (itemsInv_mbegin s)
  | tsamp cnt b0 b1 b2 =>
    obtain ⟨-, rfl⟩ | ⟨hp, -, rfl⟩ | ⟨hp, -, -, rfl⟩ | ⟨hp, -, -, rfl⟩ := execTsamp_cases h
    · exact itemsInv_respond _ _ _ hs
    · exact itemsInv_respond _ _ _ (itemsInv_failT hs hp)
    · exact itemsInv_respond _ _ _ (itemsInv_failT hs hp)
    · exact itemsInv_respond _ _ _ (itemsInv_storeT hs hp b0 b1)
  | hsamp cnt b0 b1 b2 =>
    obtain ⟨-, rfl⟩ | ⟨-, -, -, rfl⟩ | ⟨-, -, -, -, rfl⟩ | ⟨-, -, -, -, -, rfl⟩ |
      ⟨v, -, htv, -, -, hv, rfl⟩ := execHsamp_cases h
    · exact itemsInv_respond _ _ _ hs
    · exact itemsInv_respond _ _ _ (itemsInv_failH s)
    · exact itemsInv_respond _ _ _ (itemsInv_failH s)
    · exact itemsInv_respond _ _ _ hs
    · exact itemsInv_respond _ _ _ (itemsInv_storeH hs htv hv b0 b1)
  | rdreg reg =>
    obtain ⟨r, -, rfl⟩ | ⟨-, rfl⟩ := execRdreg_cases h <;> exact itemsInv_respond _ _ _ hs

/-- Every command word keeps the invariant, an illegal one among them. -/
theorem itemsInv_execWord {w : CmdWord} (hs : ItemsInv s) (h : execWord w s = .next t) : ItemsInv t := by
  obtain ⟨i, -, hi⟩ | ⟨-, hill⟩ := execWord_cases w s
  · exact itemsInv_exec hs (hi ▸ h)
  · obtain rfl : respond false .ill 0 s = t := by simpa using hill.symm.trans h
    exact itemsInv_respond _ _ _ hs

/-- The handshake changes none of the five items while no reset is asserted (R144). -/
theorem items_portStep (h : resetAsserted s = false) : items (portStep s) = items s := by
  obtain ⟨hphase, htv, hhv, htFx, hhFx⟩ := portStep_items s h
  simp [items, hphase, htv, hhv, htFx, hhFx]

/-- Every step keeps the invariant. -/
theorem itemsInv_step (hs : ItemsInv s) (h : step s = .next t) : ItemsInv t := by
  obtain ⟨-, rfl⟩ | ⟨-, w, -, hw⟩ | ⟨hr, -, rfl⟩ := step_cases h
  · exact itemsInv_of_no_readings (by simp) rfl rfl rfl rfl
  · exact itemsInv_execWord hs hw
  · exact itemsInv_of_items_eq hs (items_portStep hr)

/-- The invariant holds at reset and every step keeps it, whatever the host does. -/
theorem itemsInv_of_reachable (h : Reachable s) : ItemsInv s := by
  induction h with
  | reset => exact itemsInv_of_no_readings (by simp [State.reset]) rfl rfl rfl rfl
  | host acts _ ih => exact itemsInv_of_items_eq ih rfl
  | step _ hstep ih => exact itemsInv_step ih hstep

/-! ### STATUS -/

theorem phaseCode_toNat (p : Phase) : p.code.toNat = phaseNum p := by cases p <;> rfl

/-- The layout of STATUS (R15). -/
theorem statusWord_toNat_eq_stLow (s : State) : (statusWord s).toNat = stLow s := by
  rw [statusWord_toNat, stateBits_toNat, phaseCode_toNat, stLow]
  omega

theorem statusWord_eq_ofNat_stLow (s : State) : statusWord s = BitVec.ofNat 32 (stLow s) := by
  rw [← statusWord_toNat_eq_stLow, BitVec.ofNat_toNat, BitVec.setWidth_eq]

/-- STATUS under the four triples of R14. -/
theorem statusWord_mem_of_triple (h : cycleTriple s ∈ cycleTriples) :
    statusWord s ∈ ([0x0, 0x3, 0x4, 0x9] : List DataWord) := by
  rw [statusWord_eq_ofNat_stLow]
  simp only [cycleTriple, cycleTriples, List.mem_cons, List.not_mem_nil, or_false, Prod.mk.injEq] at h
  obtain ⟨hp, ht, hh⟩ | ⟨hp, ht, hh⟩ | ⟨hp, ht, hh⟩ | ⟨hp, ht, hh⟩ := h <;>
    simp [stLow, hp, ht, hh, phaseNum]

/-! ### The humidity as the claims write it -/

/-- HCONV on the raw word of two bytes (R70, R78). -/
theorem hconv_raw16 (b0 b1 : Byte) (t : Int) : hconv (raw16 b0 b1) t = humidity b0 b1 t := by
  simp only [hconv, hclamp_eq, hunc_eq, hcorr_eq, raw16_toNat, humidity, rawNum]

/-- A value that is not negative has one 32-bit pattern, read as unsigned or as signed. -/
theorem zext32_toNat {x : Int} (h : 0 ≤ x) : zext32 x.toNat = BitVec.ofInt 32 x := by
  rw [zext32, ← BitVec.ofInt_natCast, Int.toNat_of_nonneg h]

/-- The stored humidity word is the humidity of the sample (R92). -/
theorem zext32_hconv (b0 b1 : Byte) (t : Int) :
    zext32 (hconv (raw16 b0 b1) t).toNat = BitVec.ofInt 32 (humidity b0 b1 t) := by
  rw [zext32_toNat (hconv_bounds _ t).1, hconv_raw16]

/-- A humidity word reads at most 100 %RH (R77). -/
theorem zext32_hconv_le (rawH : RawWord) (t : Int) : (zext32 (hconv rawH t).toNat).toNat ≤ 819200000 := by
  have ⟨_, hle⟩ := hconv_bounds rawH t
  rw [zext32, BitVec.toNat_ofNat]
  omega

/-! ### The obligations -/

/-- Settles O45: the layout is the concatenation of R15 as a number; the four values are those of R14's triples. -/
theorem statusShowsTheFlagsAndThePhase : Obligations.StatusShowsTheFlagsAndThePhase :=
  ⟨statusWord_toNat_eq_stLow, by decide, fun _ h => statusWord_mem_of_triple (itemsInv_of_reachable h).triple⟩

/-- Settles O51, by the invariant of the five items. -/
theorem reachableTriplesAreTheFour : Obligations.ReachableTriplesAreTheFour :=
  fun _ h => (itemsInv_of_reachable h).triple

/-- Settles O52, by the invariant of the five items and the bounds of the clamp. -/
theorem reachableReadingsAreMarkedAndInRange : Obligations.ReachableReadingsAreMarkedAndInRange := by
  refine ⟨fun v => by simp [celsius, percentRH], fun s hs => ?_⟩
  have inv := itemsInv_of_reachable hs
  obtain ⟨htv, hhv⟩ := inv.marks
  refine ⟨by simp [htv, Option.isSome_iff_ne_none], by simp [hhv, Option.isSome_iff_ne_none], fun h hh => ?_⟩
  obtain ⟨t, b0, b1, ht, rfl⟩ := inv.humidity h hh
  exact ⟨zext32_hconv_le _ _, t, b0, b1, ht, zext32_hconv _ _ _⟩

/-- Settles O1: a reset writes the five items from constants, and KROM reads no state. -/
theorem resetLeavesIdleWithoutReadings : Obligations.ResetLeavesIdleWithoutReadings :=
  ⟨rfl, rfl, rfl, rfl, rfl, fun _ => rfl, by decide, rfl, rfl, fun _ _ => rfl⟩

/-- Settles O44: the derived constants are evaluated in Laws/Constants.lean, and KROM reads no state. -/
theorem kromHoldsTheEightConstants : Obligations.KromHoldsTheEightConstants := by
  refine ⟨fun s => ?_, by decide, fun _ _ _ _ => rfl⟩
  simp [krom, kromEntry]

end Sys2Proof.Proofs
end

section
/-! What commands write and what they leave (spec/20_memory.md rule R34): the commands that read write none of the
five items, MBEGIN is idempotent, and a sample leaves a state that refuses the same sample. -/

namespace Sys2Proof.Proofs
open Sys2Proof Sys2Proof.Machine Sys2Proof.Claims

variable {s t : State} {cnt : ByteCount} {b0 b1 b2 : Byte}

/-! ### Commands that read -/

/-- Every register reads from the five items and the constants (R17). -/
theorem readReg_of_items_eq (h : items t = items s) (q : Reg) : readReg q t = readReg q s := by
  obtain ⟨hphase, htv, hhv, htFx, hhFx⟩ : t.phase = s.phase ∧ t.tv = s.tv ∧ t.hv = s.hv ∧
      t.tFx = s.tFx ∧ t.hFx = s.hFx := by simpa [items] using h
  cases q with
  | status => simp only [readReg, statusWord, stateBits_congr hphase htv hhv]
  | tFx => simp only [readReg, htFx]
  | hFx => simp only [readReg, hhFx]
  | krom i => rfl

/-- CRCCHK writes none of the five items on either outcome (R62). -/
theorem items_of_crcchk (h : exec (.crcchk b0 b1 b2) s = .next t) : items t = items s := by
  obtain ⟨-, rfl⟩ | ⟨-, rfl⟩ := execCrcchk_cases h <;> exact items_respond _ _ _

/-- RDREG writes none of the five items (R110). -/
theorem items_of_rdreg {reg : RegNum} (h : exec (.rdreg reg) s = .next t) : items t = items s := by
  obtain ⟨r, -, rfl⟩ | ⟨-, rfl⟩ := execRdreg_cases h <;> exact items_respond _ _ _

/-- A word that is no MBEGIN, TSAMP or HSAMP writes none of the five items: it is a read or it is illegal (R34). -/
theorem items_of_execWord {w : CmdWord} (hm : decode w ≠ .ok .mbegin)
    (hs : ∀ cnt b0 b1 b2, decode w ≠ .ok (.tsamp cnt b0 b1 b2) ∧ decode w ≠ .ok (.hsamp cnt b0 b1 b2))
    (h : execWord w s = .next t) : items t = items s := by
  obtain ⟨i, hi, hexec⟩ | ⟨-, hill⟩ := execWord_cases w s
  · rw [hexec] at h
    cases i with
    | crcchk b0 b1 b2 => exact items_of_crcchk h
    | rdreg reg => exact items_of_rdreg h
    | mbegin => exact absurd hi hm
    | tsamp cnt b0 b1 b2 => exact absurd hi (hs cnt b0 b1 b2).1
    | hsamp cnt b0 b1 b2 => exact absurd hi (hs cnt b0 b1 b2).2
  · obtain rfl : respond false .ill 0 s = t := by simpa using hill.symm.trans h
    exact items_respond _ _ _

/-- A step writes the five items only by a reset, an MBEGIN, a TSAMP or an HSAMP (R34). -/
theorem items_of_step (h : step s = .next t) (hr : resetAsserted s = false)
    (hw : ∀ w, s.cmd = some w → decode w ≠ .ok .mbegin ∧ ∀ cnt b0 b1 b2,
      decode w ≠ .ok (.tsamp cnt b0 b1 b2) ∧ decode w ≠ .ok (.hsamp cnt b0 b1 b2)) : items t = items s := by
  obtain ⟨hreset, -⟩ | ⟨-, w, hcmd, hexec⟩ | ⟨-, -, rfl⟩ := step_cases h
  · simp [hr] at hreset
  · obtain ⟨hm, hs⟩ := hw w hcmd
    exact items_of_execWord hm hs hexec
  · exact items_portStep hr

/-! ### MBEGIN -/

/-- After an MBEGIN another one leaves the five items as they are (R90). -/
theorem mbegin_idempotent (h : exec .mbegin s = .next t) : ∃ u, exec .mbegin t = .next u ∧ items u = items t := by
  obtain rfl := execMbegin_cases h
  exact ⟨_, rfl, rfl⟩

/-! ### Samples -/

/-- ERR as the claims write it is the ERR field of the response word (R50). -/
theorem errNum_eq_rspErr_toNat (r : RspWord) : errNum r = (rspErr r).toNat := (toNat_field r 36 3).symm

/-- A response carries the code of its error (R52). -/
theorem errNum_responseWord (ok : Bool) (err : ErrCode) (d : DataWord) (s : State) :
    errNum (responseWord ok err d s) = err.code.toNat := by
  rw [errNum_eq_rspErr_toNat, rspErr_responseWord]

/-- An error raised on the state itself is a refusal (R120). -/
theorem refusedWith_of_respond {i : Instr} {err : ErrCode} {d : DataWord}
    (h : exec i s = .next (respond false err d s)) : RefusedWith err.code.toNat i s :=
  ⟨_, _, h, respond_rsp .., errNum_responseWord .., items_respond ..⟩

/-- TSAMP outside WANT_T is refused with SEQ (R91). -/
theorem tsamp_refusedWith_seq (h : s.phase ≠ .wantT) : RefusedWith 3 (.tsamp cnt b0 b1 b2) s :=
  refusedWith_of_respond (err := .seq) (execTsamp_of_wrong_phase h)

/-- HSAMP outside WANT_H, or without TV, is refused with SEQ (R92). -/
theorem hsamp_refusedWith_seq (h : s.phase ≠ .wantH ∨ s.tv = false) : RefusedWith 3 (.hsamp cnt b0 b1 b2) s :=
  refusedWith_of_respond (err := .seq) (execHsamp_of_wrong_phase h)

/-- HSAMP of a good sample without a temperature to compute from (notes/assumptions/3.md). -/
theorem execHsamp_of_no_temperature (h : s.phase = .wantH) (ht : s.tv = true) (hc : cnt = 3)
    (hk : crc8 b0 b1 = b2) (hv : s.tFx = none) :
    execHsamp cnt b0 b1 b2 s = .next (respond false .seq 0 s) := by
  simp only [execHsamp, if_neg (show ¬(s.phase ≠ .wantH ∨ s.tv = false) by simp [h, ht]),
    if_neg (show ¬sampleComplete cnt = false by simp [hc]), if_neg (show ¬crcOk b0 b1 b2 = false by simp [hk]),
    hv, raise_eq]

/-- No TSAMP leaves the block waiting for a temperature (R91). -/
theorem phase_ne_wantT_of_tsamp (h : exec (.tsamp cnt b0 b1 b2) s = .next t) : t.phase ≠ .wantT := by
  obtain ⟨hp, rfl⟩ | ⟨-, -, rfl⟩ | ⟨-, -, -, rfl⟩ | ⟨-, -, -, rfl⟩ := execTsamp_cases h
  · exact hp
  · simp [failT]
  · simp [failT]
  · simp

/-- The state an HSAMP leaves refuses the same HSAMP. Only the refusal for want of a temperature leaves WANT_H with TV,
and there the same sample meets the same refusal. -/
theorem hsamp_refusedWith_seq_again (h : exec (.hsamp cnt b0 b1 b2) s = .next t) :
    RefusedWith 3 (.hsamp cnt b0 b1 b2) t := by
  obtain ⟨hp, rfl⟩ | ⟨-, -, -, rfl⟩ | ⟨-, -, -, -, rfl⟩ | ⟨hp, htv, hc, hk, hv, rfl⟩ |
    ⟨v, -, -, -, -, -, rfl⟩ := execHsamp_cases h
  · exact hsamp_refusedWith_seq hp
  · exact hsamp_refusedWith_seq (.inl (by simp [failH]))
  · exact hsamp_refusedWith_seq (.inl (by simp [failH]))
  · exact refusedWith_of_respond (err := .seq) (execHsamp_of_no_temperature hp htv hc hk hv)
  · exact hsamp_refusedWith_seq (.inl (by simp))

/-! ### The obligation -/

/-- Settles O38: what is no MBEGIN, sample or reset leaves the five items, and after a sample the block is in a state
that refuses the same sample. -/
theorem readsAreIdempotentAndSamplesAreNot : Obligations.ReadsAreIdempotentAndSamplesAreNot := by
  refine ⟨fun s t h hr hw => ?_, fun reg cnt b0 b1 b2 s => ⟨fun _ => items_of_rdreg, fun _ => items_of_crcchk,
    fun _ => mbegin_idempotent, fun _ h => tsamp_refusedWith_seq (phase_ne_wantT_of_tsamp h),
    fun _ => hsamp_refusedWith_seq_again⟩⟩
  have hitems := items_of_step h hr hw
  exact ⟨hitems, readReg_of_items_eq hitems⟩

end Sys2Proof.Proofs
end

section
/-! The response word as numbers (spec/30_encoding.md rules R50 to R52), and that executing any command word is one
response whose OK and ERR belong together. -/

namespace Sys2Proof.Proofs
open Sys2Proof Sys2Proof.Machine Sys2Proof.Claims

variable {s : State} {w : CmdWord}

/-! ### The response word as numbers -/

/-- The state bits of a response are the low bits of STATUS (R15, R50). -/
theorem stateBits_toNat_eq_stLow (s : State) : (stateBits s).toNat = stLow s :=
  (statusWord_toNat s).symm.trans (statusWord_toNat_eq_stLow s)

/-- The layout of the response word (R50). -/
theorem responseWord_toNat_eq (ok : Bool) (err : ErrCode) (d : DataWord) (s : State) :
    (responseWord ok err d s).toNat =
      (ok.toNat * 128 + err.code.toNat * 16 + stLow s) * 2 ^ 32 + d.toNat := by
  rw [responseWord_toNat, statusByte_toNat, stateBits_toNat_eq_stLow]

/-- The response word as the claims write it, ST above DATA (R50). -/
theorem responseWord_eq_rsp40 (ok : Bool) (err : ErrCode) (d : DataWord) (s : State) :
    responseWord ok err d s = rsp40 (ok.toNat * 128 + err.code.toNat * 16 + stLow s) d := by
  rw [rsp40, ← responseWord_toNat_eq, BitVec.ofNat_toNat, BitVec.setWidth_eq]

/-- The state after a response, its word as the claims write it (R50). -/
theorem respond_eq (ok : Bool) (err : ErrCode) (d : DataWord) (s : State) :
    respond ok err d s =
      { s with cmd := none, rsp := some (rsp40 (ok.toNat * 128 + err.code.toNat * 16 + stLow s) d) } := by
  rw [respond, responseWord_eq_rsp40]

/-- The state bits a host reads are those of the state answered from (R50). -/
theorem rspStateNum_responseWord (ok : Bool) (err : ErrCode) (d : DataWord) (s : State) :
    (responseWord ok err d s).toNat / 2 ^ 32 % 16 = stLow s := by
  rw [← stateBits_toNat_eq_stLow, ← rspState_responseWord ok err d s]
  exact (toNat_field _ 32 4).symm

/-- OK as the claims write it is the OK bit of the response word (R50). -/
theorem okNum_responseWord (ok : Bool) (err : ErrCode) (d : DataWord) (s : State) :
    okNum (responseWord ok err d s) = ok.toNat := by
  have herr := errCode_le err
  have hst : stLow s < 16 := stateBits_toNat_eq_stLow s ▸ (stateBits s).isLt
  rw [okNum, responseWord_toNat_eq]
  omega

/-- A response whose OK goes with NONE shows OK = 1 exactly with ERR = 0 (R51, R125). -/
theorem okNum_eq_one_iff_errNum_eq_zero {ok : Bool} {err : ErrCode} (h : ok = true ↔ err = .noError)
    (d : DataWord) (s : State) :
    okNum (responseWord ok err d s) = 1 ↔ errNum (responseWord ok err d s) = 0 := by
  rw [okNum_responseWord, errNum_responseWord, Bool.toNat_eq_one, h, ← errCode_eq_zero, ← BitVec.toNat_inj]
  rfl

/-! ### Executing a command word -/

/-- A step that executes a word does nothing else (R144). -/
theorem step_of_executes (h : Executes s w) : step s = execWord w s := by
  obtain ⟨hreset, hcmd⟩ := h
  simp [step, hreset, hcmd]

/-- Every executed word is answered by one response, OK exactly with NONE (R50, R51, R125). -/
theorem step_responds (h : Executes s w) :
    ∃ ok err d u, step s = .next (respond ok err d u) ∧ (ok = true ↔ err = .noError) := by
  rw [step_of_executes h]
  obtain ⟨i, -, hexec⟩ | ⟨-, hill⟩ := execWord_cases w s
  · obtain ⟨ok, err, d, u, hnext, hok, -⟩ := exec_responds i s
    exact ⟨ok, err, d, u, hexec.trans hnext, hok⟩
  · exact ⟨_, _, _, _, hill, by decide⟩

/-! ### The obligations -/

/-- Settles O8: the layout is the concatenation of R50 as a number, and an executed word ends in one `respond`. -/
theorem responseWordLayoutAndOneResponse : Obligations.ResponseWordLayoutAndOneResponse := by
  refine ⟨responseWord_toNat_eq, fun s w h => ?_⟩
  obtain ⟨ok, err, d, u, hstep, hok⟩ := step_responds h
  exact ⟨_, _, hstep, respond_rsp .., respond_cmd .., rspStateNum_responseWord ..,
    okNum_eq_one_iff_errNum_eq_zero hok d u⟩

/-- Settles O9: an executed word ends in one `respond`, whose error code is one of the five. -/
theorem errorCodesAreTheFive : Obligations.ErrorCodesAreTheFive := by
  refine ⟨rfl, rfl, rfl, rfl, rfl, fun s w t r h ht hr => ?_⟩
  obtain ⟨ok, err, d, u, hstep, hok⟩ := step_responds h
  obtain rfl : respond ok err d u = t := by simpa using hstep.symm.trans ht
  obtain rfl : responseWord ok err d u = r := by simpa using hr
  exact ⟨errNum_responseWord ok err d u ▸ errCode_le err, (okNum_eq_one_iff_errNum_eq_zero hok d u).symm⟩

end Sys2Proof.Proofs
end

section
/-! Decoding against the opcode table (spec/30_encoding.md rules R46 to R48): the mask and match of each row as
numbers, what a word of each row decodes to, and which words decode to nothing. -/

namespace Sys2Proof.Proofs
open Sys2Proof Sys2Proof.Machine Sys2Proof.Claims

variable {s : State} {w : CmdWord}

/-! ### Masks as numbers -/

/-- A mask shifted to bit `n` sees the part of the number from bit `n` up. -/
theorem and_mul_two_pow (x m n : Nat) : x &&& m * 2 ^ n = (x / 2 ^ n &&& m) * 2 ^ n := by
  apply Nat.eq_of_testBit_eq
  intro i
  simp only [Nat.testBit_and, Nat.testBit_mul_two_pow, Nat.testBit_div_two_pow]
  by_cases hi : n ≤ i <;> simp [hi]

/-- The mask of all bits from bit `n` up clears the bits below. -/
theorem and_highMask {x n m : Nat} (h : x < 2 ^ (n + m)) : x &&& (2 ^ m - 1) * 2 ^ n = x / 2 ^ n * 2 ^ n := by
  have hlt : x / 2 ^ n < 2 ^ m := Nat.div_lt_of_lt_mul (by rwa [← pow_add])
  rw [and_mul_two_pow, Nat.and_two_pow_sub_one_eq_mod, Nat.mod_eq_of_lt hlt]

/-- The byte of the sample rows' mask: OP and the two reserved bits, without CNT (R44). -/
theorem byte_and_maskS (b : Byte) : b.toNat &&& 0xF3 = b.toNat / 16 * 16 + b.toNat % 4 := by
  revert b; decide

/-- The mask of CRCCHK's row: OP and four reserved bits (R42, R46). -/
theorem toNat_and_maskC (w : CmdWord) : (w &&& 0xFF000000).toNat = w.toNat / 2 ^ 24 * 2 ^ 24 :=
  and_highMask (n := 24) (m := 8) w.isLt

/-- The mask of the sample rows: OP and two reserved bits (R44, R46). -/
theorem toNat_and_maskS (w : CmdWord) :
    (w &&& 0xF3000000).toNat = w.toNat / 2 ^ 28 * 2 ^ 28 + w.toNat / 2 ^ 24 % 4 * 2 ^ 24 := by
  have := w.isLt
  have h : (w &&& 0xF3000000).toNat = _ := and_mul_two_pow w.toNat 0xF3 24
  have hb := byte_and_maskS (BitVec.ofNat 8 (w.toNat / 2 ^ 24))
  rw [BitVec.toNat_ofNat, Nat.mod_eq_of_lt (show w.toNat / 2 ^ 24 < 2 ^ 8 by omega)] at hb
  rw [h, hb]
  omega

/-- The mask of RDREG's row: all bits but REG (R45, R46). -/
theorem toNat_and_maskR (w : CmdWord) : (w &&& 0xFFFFFFF0).toNat = w.toNat / 2 ^ 4 * 2 ^ 4 :=
  and_highMask (n := 4) (m := 28) w.isLt

/-! ### The rows of the table as numbers -/

theorem crcchkRow_iff (w : CmdWord) :
    w &&& 0xFF000000 = 0x10000000 ↔ w.toNat / 2 ^ 28 = 1 ∧ w.toNat / 2 ^ 24 % 16 = 0 := by
  simp only [← BitVec.toNat_inj, toNat_and_maskC, BitVec.reduceToNat]
  omega

theorem mbeginRow_iff (w : CmdWord) :
    w &&& 0xFFFFFFFF = 0x20000000 ↔ w.toNat / 2 ^ 28 = 2 ∧ w.toNat % 2 ^ 28 = 0 := by
  have hmask : w &&& 0xFFFFFFFF = w := BitVec.and_allOnes
  simp only [hmask, ← BitVec.toNat_inj, BitVec.reduceToNat]
  omega

theorem tsampRow_iff (w : CmdWord) :
    w &&& 0xF3000000 = 0x30000000 ↔ w.toNat / 2 ^ 28 = 3 ∧ w.toNat / 2 ^ 24 % 4 = 0 := by
  simp only [← BitVec.toNat_inj, toNat_and_maskS, BitVec.reduceToNat]
  omega

theorem hsampRow_iff (w : CmdWord) :
    w &&& 0xF3000000 = 0x40000000 ↔ w.toNat / 2 ^ 28 = 4 ∧ w.toNat / 2 ^ 24 % 4 = 0 := by
  simp only [← BitVec.toNat_inj, toNat_and_maskS, BitVec.reduceToNat]
  omega

theorem rdregRow_iff (w : CmdWord) :
    w &&& 0xFFFFFFF0 = 0x50000000 ↔ w.toNat / 2 ^ 28 = 5 ∧ w.toNat / 2 ^ 4 % 2 ^ 24 = 0 := by
  simp only [← BitVec.toNat_inj, toNat_and_maskR, BitVec.reduceToNat]
  omega

/-! ### What a word of each row decodes to -/

/-- The registers RDREG may name, as numbers (R47). -/
theorem regReadable_iff (reg : RegNum) : regReadable reg = true ↔ reg.toNat ≤ 2 ∨ 8 ≤ reg.toNat := by
  simp [regReadable]

theorem decode_of_crcchkRow (hop : w.toNat / 2 ^ 28 = 1) (hres : w.toNat / 2 ^ 24 % 16 = 0) :
    decode w = .ok (.crcchk (fieldB0 w) (fieldB1 w) (fieldB2 w)) := by
  simp [decode_eq, -Nat.reducePow, hop, hres]

theorem decode_of_mbeginRow (hop : w.toNat / 2 ^ 28 = 2) (hres : w.toNat % 2 ^ 28 = 0) :
    decode w = .ok .mbegin := by
  simp [decode_eq, -Nat.reducePow, hop, hres]

theorem decode_of_tsampRow (hop : w.toNat / 2 ^ 28 = 3) (hres : w.toNat / 2 ^ 24 % 4 = 0) :
    decode w = .ok (.tsamp (fieldCnt w) (fieldB0 w) (fieldB1 w) (fieldB2 w)) := by
  simp [decode_eq, -Nat.reducePow, hop, hres]

theorem decode_of_hsampRow (hop : w.toNat / 2 ^ 28 = 4) (hres : w.toNat / 2 ^ 24 % 4 = 0) :
    decode w = .ok (.hsamp (fieldCnt w) (fieldB0 w) (fieldB1 w) (fieldB2 w)) := by
  simp [decode_eq, -Nat.reducePow, hop, hres]

/-- A word of RDREG's row is a command only if the register may be named (R47, R48). -/
theorem decode_of_rdregRow (hop : w.toNat / 2 ^ 28 = 5) (hres : w.toNat / 2 ^ 4 % 2 ^ 24 = 0)
    (hreg : (fieldReg w).toNat ≤ 2 ∨ 8 ≤ (fieldReg w).toNat) : decode w = .ok (.rdreg (fieldReg w)) := by
  simp [decode_eq, -Nat.reducePow, hop, hres, (regReadable_iff _).mpr hreg]

/-- A command's word holds the command: what decoding reads, encoding writes back (R47, R49). -/
theorem encode_of_decode {i : Instr} (h : decode w = .ok i) : encode i = w := by
  have := w.isLt
  apply BitVec.eq_of_toNat_eq
  rw [decode_eq] at h
  split_ifs at h <;> cases h
  · simp only [encode_crcchk_toNat, fieldB0, fieldB1, fieldB2, toNat_field]
    omega
  · change 0x20000000 = w.toNat
    omega
  · simp only [encode_tsamp_toNat, fieldCnt, fieldB0, fieldB1, fieldB2, toNat_field]
    omega
  · simp only [encode_hsamp_toNat, fieldCnt, fieldB0, fieldB1, fieldB2, toNat_field]
    omega
  · simp only [encode_rdreg_toNat, fieldReg, toNat_field]
    omega

/-- The word of every command selects that command's row (R46). -/
theorem encode_and_rowMask (i : Instr) : encode i &&& rowMask i = rowMatch i := by
  cases i with
  | crcchk b0 b1 b2 =>
    refine (crcchkRow_iff _).mpr ?_
    rw [encode_crcchk_toNat]
    omega
  | mbegin => decide
  | tsamp cnt b0 b1 b2 =>
    refine (tsampRow_iff _).mpr ?_
    rw [encode_tsamp_toNat]
    omega
  | hsamp cnt b0 b1 b2 =>
    refine (hsampRow_iff _).mpr ?_
    rw [encode_hsamp_toNat]
    omega
  | rdreg reg =>
    refine (rdregRow_iff _).mpr ?_
    rw [encode_rdreg_toNat]
    omega

/-- A word that decodes selects the row of its command (R47). -/
theorem rowSelected_of_decode {i : Instr} (h : decode w = .ok i) : w &&& rowMask i = rowMatch i :=
  encode_of_decode h ▸ encode_and_rowMask i

/-! ### The illegal words -/

/-- The numbers of the illegal words, as R48 lists them: a reserved opcode, a reserved bit of one of the formats N,
C, S or R, or a register RDREG may not name. -/
def IllegalNumber (n : Nat) : Prop :=
  n / 2 ^ 28 = 0 ∨ 6 ≤ n / 2 ^ 28 ∨
    (n / 2 ^ 28 = 1 ∧ n / 2 ^ 24 % 16 ≠ 0) ∨
    (n / 2 ^ 28 = 2 ∧ n % 2 ^ 28 ≠ 0) ∨
    ((n / 2 ^ 28 = 3 ∨ n / 2 ^ 28 = 4) ∧ n / 2 ^ 24 % 4 ≠ 0) ∨
    (n / 2 ^ 28 = 5 ∧ (n / 2 ^ 4 % 2 ^ 24 ≠ 0 ∨ (3 ≤ n % 16 ∧ n % 16 ≤ 7)))

/-- The word of a well-formed command is legal. -/
theorem not_illegalNumber_encode {i : Instr} (h : i.wf = true) : ¬ IllegalNumber (encode i).toNat := by
  unfold IllegalNumber
  cases i with
  | crcchk b0 b1 b2 =>
    rw [encode_crcchk_toNat]
    omega
  | mbegin => decide
  | tsamp cnt b0 b1 b2 =>
    rw [encode_tsamp_toNat]
    omega
  | hsamp cnt b0 b1 b2 =>
    rw [encode_hsamp_toNat]
    omega
  | rdreg reg =>
    have hreg := (regReadable_iff reg).mp h
    rw [encode_rdreg_toNat]
    omega

/-- A word decodes to no command exactly when it is one of those R48 lists: any other word is in one of the
five rows. -/
theorem decode_ne_ok_iff (w : CmdWord) : (∀ i, decode w ≠ .ok i) ↔ IllegalNumber w.toNat := by
  constructor
  · intro hnone
    by_contra hlegal
    unfold IllegalNumber at hlegal
    have hreg : (fieldReg w).toNat = w.toNat % 16 := by simp [fieldReg_eq]
    obtain ⟨hop, hres⟩ | ⟨hop, hres⟩ | ⟨hop, hres⟩ | ⟨hop, hres⟩ | ⟨hop, hres, hread⟩ :
        (w.toNat / 2 ^ 28 = 1 ∧ w.toNat / 2 ^ 24 % 16 = 0) ∨ (w.toNat / 2 ^ 28 = 2 ∧ w.toNat % 2 ^ 28 = 0) ∨
        (w.toNat / 2 ^ 28 = 3 ∧ w.toNat / 2 ^ 24 % 4 = 0) ∨ (w.toNat / 2 ^ 28 = 4 ∧ w.toNat / 2 ^ 24 % 4 = 0) ∨
        (w.toNat / 2 ^ 28 = 5 ∧ w.toNat / 2 ^ 4 % 2 ^ 24 = 0 ∧
          ((fieldReg w).toNat ≤ 2 ∨ 8 ≤ (fieldReg w).toNat)) := by omega
    · exact hnone _ (decode_of_crcchkRow hop hres)
    · exact hnone _ (decode_of_mbeginRow hop hres)
    · exact hnone _ (decode_of_tsampRow hop hres)
    · exact hnone _ (decode_of_hsampRow hop hres)
    · exact hnone _ (decode_of_rdregRow hop hres hread)
  · intro hill i hi
    exact not_illegalNumber_encode (decode_wf hi) (encode_of_decode hi ▸ hill)

/-- A word that decodes to no command is refused with ILL (R48, R124). -/
theorem step_of_illegal (h : Executes s w) (hill : ∀ i, decode w ≠ .ok i) :
    step s = .next (respond false .ill 0 s) := by
  rw [step_of_executes h]
  obtain ⟨i, hi, -⟩ | ⟨-, hrefused⟩ := execWord_cases w s
  · exact absurd hi (hill i)
  · exact hrefused

/-! ### The obligations -/

/-- Settles O13: each mask and match is a condition on the number of the word, under which decoding takes that row's
branch; conversely the word of every command selects its row. -/
theorem decodeSelectsTheTableRow : Obligations.DecodeSelectsTheTableRow := by
  intro w
  simp only [← fieldB0_eq, ← fieldB1_eq, ← fieldB2_eq, ← fieldCnt_eq, ← fieldReg_eq, -Nat.reducePow]
  refine ⟨fun h => ?_, fun h => ?_, fun h => ?_, fun h => ?_, fun h hreg => ?_, fun h hlo hhi => ?_,
    fun hcrcchk hmbegin htsamp hhsamp hrdreg i hi => ?_⟩
  · obtain ⟨hop, hres⟩ := (crcchkRow_iff w).mp h
    exact decode_of_crcchkRow hop hres
  · obtain ⟨hop, hres⟩ := (mbeginRow_iff w).mp h
    exact decode_of_mbeginRow hop hres
  · obtain ⟨hop, hres⟩ := (tsampRow_iff w).mp h
    exact decode_of_tsampRow hop hres
  · obtain ⟨hop, hres⟩ := (hsampRow_iff w).mp h
    exact decode_of_hsampRow hop hres
  · obtain ⟨hop, hres⟩ := (rdregRow_iff w).mp h
    exact decode_of_rdregRow hop hres hreg
  · obtain ⟨hop, -⟩ := (rdregRow_iff w).mp h
    have hreg : (fieldReg w).toNat = w.toNat % 16 := by simp [fieldReg_eq]
    refine (decode_ne_ok_iff w).mpr ?_
    unfold IllegalNumber
    omega
  · have hrow := rowSelected_of_decode hi
    cases i with
    | crcchk b0 b1 b2 => exact hcrcchk hrow
    | mbegin => exact hmbegin hrow
    | tsamp cnt b0 b1 b2 => exact htsamp hrow
    | hsamp cnt b0 b1 b2 => exact hhsamp hrow
    | rdreg reg => exact hrdreg hrow

/-- Settles O14: the words outside R48's list are those of the five rows, and a word that does not decode is refused. -/
theorem illegalWordsAreTheseAndAreRefused : Obligations.IllegalWordsAreTheseAndAreRefused := by
  refine ⟨decode_ne_ok_iff, fun s w h hill => ?_⟩
  rw [step_of_illegal h hill, respond_eq]
  rfl

end Sys2Proof.Proofs
end

section
/-! The CRC-8 validator (spec/40_crc8.md rules R60 to R62 and R64): the bit-serial rule in numbers, the linearity of
whole checksums with what a flipped bit does to them, and CRCCHK's word and answers. -/

namespace Sys2Proof.Proofs
open Sys2Proof Sys2Proof.Machine Sys2Proof.Claims

variable {s : State} {b0 b1 b2 d0 d1 d2 : Byte}

/-! ### The bit-serial rule in numbers -/

/-- One iteration on the number of the accumulator: bit 7 is set from 128 up, and a shift keeping 8 bits is doubling
modulo 256 (R60). -/
theorem crcIterate_toNat (acc : Byte) : (crcIterate 0x31#8 acc).toNat = crcOne acc.toNat := by
  have hshift : (acc <<< 1).toNat = 2 * acc.toNat % 256 := by
    rw [BitVec.toNat_shiftLeft, Nat.shiftLeft_eq, Nat.mul_comm, pow_one]
  have hmsb : acc.msb = true ↔ 128 ≤ acc.toNat := by simp [BitVec.msb_eq_decide]
  unfold crcIterate crcOne
  by_cases h : acc.msb = true
  · rw [if_pos h, if_pos (hmsb.mp h), BitVec.toNat_xor, hshift]
    rfl
  · rw [if_neg h, if_neg (mt hmsb.mpr h), hshift]

/-- The eight iterations of one byte (R60). -/
theorem crcIterations_eight_toNat (acc : Byte) : (crcIterations 0x31#8 8 acc).toNat = crcEight acc.toNat := by
  simp only [crcIterations, crcIterate_toNat, crcEight]

/-! ### Linearity -/

/-- CRC8 is linear over XOR because every iteration is (R64). -/
theorem crc8_xor (a0 a1 c0 c1 : Byte) : crc8 (a0 ^^^ c0) (a1 ^^^ c1) = crc8 a0 a1 ^^^ crc8 c0 c1 := by
  simp only [crc8_eq, crcIterations_xor]
  ac_rfl

/-- A sample that passes fails once a pattern that does not pass itself is XORed into it. -/
theorem crcOk_xor_eq_false (h : crcOk b0 b1 b2 = true) (hd : crc8 d0 d1 ≠ d2) :
    crcOk (b0 ^^^ d0) (b1 ^^^ d1) (b2 ^^^ d2) = false := by
  rw [crcOk_iff] at h
  rw [crcOk_false_iff, crc8_xor, h]
  exact mt (BitVec.xor_right_inj b2).mp hd

/-! ### Single bits -/

theorem crc8_zero : crc8 0 0 = 0 := by decide +kernel

/-- The checksums of the single bits of the second byte (95_test_vectors.md section 2.2). -/
theorem crc8_bits_of_second :
    (List.range 8).map (fun i => crc8 0 (BitVec.twoPow 8 i)) = [0x31, 0x62, 0xC4, 0xB9, 0x43, 0x86, 0x3D, 0x7A] := by
  decide +kernel

/-- The checksums of the single bits of the first byte (95_test_vectors.md section 2.2). -/
theorem crc8_bits_of_first :
    (List.range 8).map (fun i => crc8 (BitVec.twoPow 8 i) 0) = [0xF4, 0xD9, 0x83, 0x37, 0x6E, 0xDC, 0x89, 0x23] := by
  decide +kernel

/-- A function whose listed values hold no zero is zero at none of them. -/
theorem ne_zero_of_map_range {f : Nat → Byte} {l : List Byte} {n i : Nat} (hf : (List.range n).map f = l)
    (hl : 0 ∉ l) (hi : i < n) : f i ≠ 0 := fun h =>
  hl (hf ▸ h ▸ List.mem_map_of_mem (List.mem_range.mpr hi))

theorem crc8_bit_of_second_ne_zero {i : Nat} (hi : i < 8) : crc8 0 (BitVec.twoPow 8 i) ≠ 0 :=
  ne_zero_of_map_range crc8_bits_of_second (by decide) hi

theorem crc8_bit_of_first_ne_zero {i : Nat} (hi : i < 8) : crc8 (BitVec.twoPow 8 i) 0 ≠ 0 :=
  ne_zero_of_map_range crc8_bits_of_first (by decide) hi

theorem twoPow_ne_zero {w i : Nat} (hi : i < w) : BitVec.twoPow w i ≠ 0 := fun h => by
  simpa [hi] using congrArg (BitVec.getLsbD · i) h

/-! ### CRCCHK -/

/-- The word of CRCCHK as its fields stand in it (R42). -/
theorem encode_crcchk_eq_or (b0 b1 b2 : Byte) :
    encode (.crcchk b0 b1 b2) =
      (0x10000000 ||| b0.setWidth 32 <<< 16 ||| b1.setWidth 32 <<< 8 ||| b2.setWidth 32) := by
  have h : encode (.crcchk b0 b1 b2) = (0x10#8 ++ b0 ++ b1 ++ b2).setWidth 32 := (BitVec.setWidth_eq _).symm
  exact h.trans BitVec.setWidth_append_append_append_eq_shiftLeft_setWidth_or

/-- The checksum in the data word is the byte extended with zeros (R62). -/
theorem zext32_byte_toNat (b : Byte) : zext32 b.toNat = b.setWidth 32 :=
  BitVec.ofNat_toNat 32 b

/-- CRCCHK of a matching checksum (R62). -/
theorem exec_crcchk_of_match (h : crc8 b0 b1 = b2) : exec (.crcchk b0 b1 b2) s =
    .next { s with cmd := none, rsp := some (rsp40 (0x80 + stLow s) ((crc8 b0 b1).setWidth 32)) } := by
  rw [exec, execCrcchk, if_pos ((crcOk_iff ..).mpr h), succeed_eq, respond_eq, zext32_byte_toNat]
  rfl

/-- CRCCHK of a wrong checksum (R62). -/
theorem exec_crcchk_of_mismatch (h : crc8 b0 b1 ≠ b2) : exec (.crcchk b0 b1 b2) s =
    .next { s with cmd := none, rsp := some (rsp40 (0x20 + stLow s) ((crc8 b0 b1).setWidth 32)) } := by
  rw [exec, execCrcchk, if_neg (mt (crcOk_iff ..).mp h), raiseCrcWith_eq, respond_eq, zext32_byte_toNat]
  rfl

/-! ### The obligations -/

/-- Settles O16: an iteration on the accumulator is `crcOne` on its number, and XOR of bytes is XOR of their numbers. -/
theorem checksumFollowsTheBitSerialRule : Obligations.ChecksumFollowsTheBitSerialRule := by
  refine fun b0 b1 b2 => ⟨?_, crcOk_iff b0 b1 b2⟩
  rw [crc8_eq, crcIterations_eight_toNat, BitVec.toNat_xor, crcIterations_eight_toNat]

/-- Settles O17: by linearity a flipped bit spoils a sample unless the bit alone passes the check, and no single bit
does. -/
theorem crcLinearAndSensitiveToEveryBit : Obligations.CrcLinearAndSensitiveToEveryBit := by
  refine ⟨⟨crc8_zero, (crcOk_iff ..).mpr crc8_zero⟩, crc8_xor, ⟨crc8_bits_of_second, crc8_bits_of_first⟩,
    fun b0 b1 b2 i hi h => ⟨?_, ?_, ?_⟩⟩
  · simpa using crcOk_xor_eq_false (d1 := 0) (d2 := 0) h (crc8_bit_of_first_ne_zero hi)
  · simpa using crcOk_xor_eq_false (d0 := 0) (d2 := 0) h (crc8_bit_of_second_ne_zero hi)
  · simpa using crcOk_xor_eq_false (d0 := 0) (d1 := 0) h (crc8_zero.trans_ne (twoPow_ne_zero hi).symm)

/-- Settles O19: CRCCHK's two branches are the two outcomes, and the all-zero sample takes the first. -/
theorem crcchkAnswersTheChecksum : Obligations.CrcchkAnswersTheChecksum := by
  refine fun b0 b1 b2 s =>
    ⟨encode_crcchk_eq_or b0 b1 b2, exec_crcchk_of_match, exec_crcchk_of_mismatch, ?_⟩
  rw [exec_crcchk_of_match crc8_zero, crc8_zero]
  rfl

end Sys2Proof.Proofs
end

section
/-! The formula engine (spec/41_formula_engine.md rules R70 to R79): the raw word and its code, the functions of the
engine in the numbers of the claims, the same values in the document's units, and the signed 32-bit datapath. -/

namespace Sys2Proof.Proofs
open Sys2Proof Sys2Proof.Machine Sys2Proof.Claims

variable {s : State} {cnt : ByteCount} {b0 b1 b2 c0 c1 c2 : Byte} {x y t : Int}

/-! ### The raw word -/

theorem raw16_toNat_eq_rawNum (b0 b1 : Byte) : (raw16 b0 b1).toNat = rawNum b0 b1 := raw16_toNat b0 b1

theorem rawNum_mod_four (b0 b1 : Byte) : rawNum b0 b1 % 4 = 0 := by
  unfold rawNum
  omega

theorem rawNum_le (b0 b1 : Byte) : rawNum b0 b1 ≤ 65532 := by
  unfold rawNum
  omega

/-- A raw word is four times its code (R71). -/
theorem rawNum_eq_four_mul_code14 (b0 b1 : Byte) : rawNum b0 b1 = 4 * (code14 (raw16 b0 b1)).toNat := by
  have := rawNum_mod_four b0 b1
  rw [code14_toNat, raw16_toNat_eq_rawNum]
  omega

/-- Every multiple of 4 is the raw word of its own two bytes (R71). -/
theorem exists_raw16_eq {raw : RawWord} (h : raw.toNat % 4 = 0) : ∃ b0 b1, raw16 b0 b1 = raw := by
  refine ⟨BitVec.ofNat 8 (raw.toNat / 256), BitVec.ofNat 8 raw.toNat, BitVec.eq_of_toNat_eq ?_⟩
  have := raw.isLt
  rw [raw16_toNat, BitVec.toNat_ofNat, BitVec.toNat_ofNat]
  omega

/-- Every code is the code of a sample (R71). -/
theorem exists_code14_raw16_eq (q : Code14) : ∃ b0 b1, code14 (raw16 b0 b1) = q := by
  have hword : (BitVec.ofNat 16 (4 * q.toNat)).toNat = 4 * q.toNat := by
    rw [BitVec.toNat_ofNat]
    omega
  obtain ⟨b0, b1, hraw⟩ := exists_raw16_eq (raw := BitVec.ofNat 16 (4 * q.toNat)) (by omega)
  refine ⟨b0, b1, BitVec.eq_of_toNat_eq ?_⟩
  rw [hraw, code14_toNat, hword]
  omega

/-- The status bits are not in the raw word (R70). -/
theorem raw16_congr (b0 : Byte) (h : b1.toNat / 4 = c1.toNat / 4) : raw16 b0 b1 = raw16 b0 c1 :=
  BitVec.eq_of_toNat_eq (by rw [raw16_toNat, raw16_toNat, h])

/-! ### What the bytes of a sample reach -/

/-- TSAMP reads the bytes of its sample through the raw word and the checksum test alone (R91). -/
theorem execTsamp_congr (hraw : raw16 b0 b1 = raw16 c0 c1) (hcrc : crcOk b0 b1 b2 = crcOk c0 c1 c2) :
    execTsamp cnt b0 b1 b2 s = execTsamp cnt c0 c1 c2 s := by
  simp only [execTsamp, hraw, hcrc]

/-- HSAMP reads the bytes of its sample through the raw word and the checksum test alone (R92). -/
theorem execHsamp_congr (hraw : raw16 b0 b1 = raw16 c0 c1) (hcrc : crcOk b0 b1 b2 = crcOk c0 c1 c2) :
    execHsamp cnt b0 b1 b2 s = execHsamp cnt c0 c1 c2 s := by
  simp only [execHsamp, hraw, hcrc]

/-- A sample sent with its own checksum passes the test (R61). -/
theorem crcOk_crc8 (b0 b1 : Byte) : crcOk b0 b1 (crc8 b0 b1) = true := (crcOk_iff ..).mpr rfl

/-! ### The functions of the engine on samples -/

theorem tconv_raw16 (b0 b1 : Byte) : tconv (raw16 b0 b1) = 17572 * (rawNum b0 b1 : Int) - 307036160 := by
  rw [tconv_eq, raw16_toNat_eq_rawNum]

theorem hunc_raw16 (b0 b1 : Byte) : hunc (raw16 b0 b1) = 15625 * (rawNum b0 b1 : Int) - 49152000 := by
  rw [hunc_eq, raw16_toNat_eq_rawNum]

/-- A temperature is a multiple of 16, with the quotient given by its code (R73). -/
theorem tconv_raw16_eq_code14 (b0 b1 : Byte) :
    tconv (raw16 b0 b1) = 16 * (4393 * ((code14 (raw16 b0 b1)).toNat : Int) - 19189760) := by
  rw [tconv_raw16, rawNum_eq_four_mul_code14]
  omega

theorem tconv_raw16_mod_sixteen (b0 b1 : Byte) : tconv (raw16 b0 b1) % 16 = 0 := by
  rw [tconv_raw16_eq_code14]
  omega

theorem tconv_raw16_bounds (b0 b1 : Byte) :
    -307036160 ≤ tconv (raw16 b0 b1) ∧ tconv (raw16 b0 b1) ≤ 844492144 := by
  have := rawNum_le b0 b1
  rw [tconv_raw16]
  omega

theorem hunc_raw16_bounds (b0 b1 : Byte) :
    -49152000 ≤ hunc (raw16 b0 b1) ∧ hunc (raw16 b0 b1) ≤ 974785500 := by
  have := rawNum_le b0 b1
  rw [hunc_raw16]
  omega

/-- The table entry of a sample's code is the correction of its temperature: 13,179 = 3 x 4,393 for each code (R76). -/
theorem hcorrLut_code14_raw16 (b0 b1 : Byte) :
    hcorrLut (code14 (raw16 b0 b1)) = hcorr (tconv (raw16 b0 b1)) := by
  rw [hcorrLut_eq, hcorr_eq, tconv_raw16_eq_code14]
  omega

theorem hcorrLut_bounds (q : Code14) : -88289280 ≤ hcorrLut q ∧ hcorrLut q ≤ 127622277 := by
  rw [hcorrLut_eq]
  omega

theorem hcorr_tconv_raw16_bounds (b0 b1 : Byte) :
    -88289280 ≤ hcorr (tconv (raw16 b0 b1)) ∧ hcorr (tconv (raw16 b0 b1)) ≤ 127622277 :=
  hcorrLut_code14_raw16 b0 b1 ▸ hcorrLut_bounds _

/-- The sum before the clamp by the two codes (R79). -/
theorem hunc_add_hcorr_eq_codes (t0 t1 h0 h1 : Byte) :
    hunc (raw16 h0 h1) + hcorr (tconv (raw16 t0 t1)) =
      62500 * ((code14 (raw16 h0 h1)).toNat : Int) + 13179 * ((code14 (raw16 t0 t1)).toNat : Int) - 137441280 := by
  rw [← hcorrLut_code14_raw16, hcorrLut_eq, hunc_raw16, rawNum_eq_four_mul_code14]
  omega

/-- The sum of the codes' shares fixes the temperature's code modulo 62,500: 32,419 inverts 13,179. -/
theorem emod_of_weighted_sum_eq {h q total : Int} (hsum : 62500 * h + 13179 * q = total) :
    q % 62500 = 32419 * total % 62500 := by
  have hq : q = 32419 * total - 62500 * (32419 * h + 6836 * q) := by
    rw [← hsum]
    ring
  omega

/-- Before the clamp the humidity is on neither bound: the temperature's code would be 43,820 or 31,320 modulo 62,500,
and 14 bits hold neither (R79). -/
theorem hunc_add_hcorr_ne_bound (t0 t1 h0 h1 : Byte) :
    hunc (raw16 h0 h1) + hcorr (tconv (raw16 t0 t1)) ≠ 0 ∧
      hunc (raw16 h0 h1) + hcorr (tconv (raw16 t0 t1)) ≠ 819200000 := by
  have hcode := (code14 (raw16 t0 t1)).isLt
  rw [hunc_add_hcorr_eq_codes, Ne, Ne, sub_eq_zero, sub_eq_iff_eq_add]
  exact ⟨mt emod_of_weighted_sum_eq (by omega), mt emod_of_weighted_sum_eq (by omega)⟩

/-! ### The document's units -/

/-- The temperature is the document's formula (R72). -/
theorem tconv_div_scale (b0 b1 : Byte) :
    (tconv (raw16 b0 b1) : ℚ) / 6553600 = -46.85 + 175.72 * (rawNum b0 b1 : ℚ) / 65536 := by
  rw [tconv_raw16]
  push_cast
  ring

/-- The humidity before compensation is the document's formula (R74). -/
theorem hunc_div_scale (b0 b1 : Byte) :
    (hunc (raw16 b0 b1) : ℚ) / 8192000 = -6 + 125 * (rawNum b0 b1 : ℚ) / 65536 := by
  rw [hunc_raw16]
  push_cast
  ring

/-- The correction is the document's term, because the division by 16 leaves no remainder (R75). -/
theorem hcorr_div_scale (h : t % 16 = 0) :
    (hcorr t : ℚ) / 8192000 = (25 - (t : ℚ) / 6553600) * (-0.15) := by
  obtain ⟨k, rfl⟩ := Int.dvd_of_emod_eq_zero h
  rw [hcorr_eq, Int.mul_ediv_cancel_left k (by decide)]
  push_cast
  ring

/-- Below 25 degrees the document's term is negative (R75). -/
theorem hcorr_neg_of_lt (h : t % 16 = 0) (ht : (t : ℚ) / 6553600 < 25) : hcorr t < 0 := by
  have hterm := hcorr_div_scale h
  have hcast : (hcorr t : ℚ) < 0 := by linarith
  exact_mod_cast hcast

/-- Above 25 degrees the document's term is positive (R75). -/
theorem hcorr_pos_of_lt (h : t % 16 = 0) (ht : 25 < (t : ℚ) / 6553600) : 0 < hcorr t := by
  have hterm := hcorr_div_scale h
  have hcast : (hcorr t : ℚ) > 0 := by linarith
  exact_mod_cast hcast

/-- The clamp in counts is the clamp to 0 and 100 percent (R77). -/
theorem hclamp_div_scale (x : Int) : (hclamp x : ℚ) / 8192000 = max 0 (min 100 ((x : ℚ) / 8192000)) := by
  have hmax : (819200000 : ℚ) / 8192000 = 100 := by norm_num
  rw [hclamp_eq, max_min_distrib_left, max_eq_right (by norm_num : (0 : ℚ) ≤ 100)]
  push_cast
  rw [← min_div_div_right (by norm_num), ← max_div_div_right (by norm_num), hmax, zero_div, min_comm, max_comm]

/-! ### The signed 32-bit datapath -/

/-- An integer that a signed 32-bit word holds (R79). -/
def Fits32 (x : Int) : Prop := -2 ^ 31 ≤ x ∧ x < 2 ^ 31

theorem fits32_of_bounds (hlo : -2147483648 ≤ x) (hhi : x < 2147483648) : Fits32 x := ⟨hlo, hhi⟩

theorem toInt_ofInt_of_fits32 (h : Fits32 x) : (BitVec.ofInt 32 x).toInt = x :=
  BitVec.toInt_ofInt_eq_self (by decide) h.1 h.2

/-- Subtraction wraps as addition does. -/
theorem ofInt_sub {w : Nat} (x y : Int) : BitVec.ofInt w (x - y) = BitVec.ofInt w x - BitVec.ofInt w y := by
  rw [Int.sub_eq_add_neg, BitVec.ofInt_add, BitVec.ofInt_neg, BitVec.sub_eq_add_neg]

/-- Widening a raw word keeps its number. -/
theorem setWidth_raw (raw : RawWord) : raw.setWidth 32 = BitVec.ofInt 32 raw.toNat := by
  rw [BitVec.ofInt_natCast, BitVec.ofNat_toNat]

/-- TCONV commutes with reduction to 32 bits (R72, R79). -/
theorem tconv32_eq (raw : RawWord) : tconv32 raw = BitVec.ofInt 32 (tconv raw) := by
  rw [tconv32, tconv, ofInt_sub, BitVec.ofInt_mul, setWidth_raw]

/-- HUNC commutes with reduction to 32 bits (R74, R79). -/
theorem hunc32_eq (raw : RawWord) : hunc32 raw = BitVec.ofInt 32 (hunc raw) := by
  rw [hunc32, hunc, ofInt_sub, BitVec.ofInt_mul, setWidth_raw]

/-- HCORR shifts right, so it needs its operand whole (R75, R79). -/
theorem hcorr32_ofInt (h : Fits32 t) : hcorr32 (BitVec.ofInt 32 t) = BitVec.ofInt 32 (hcorr t) := by
  have hshift : (BitVec.ofInt 32 t).sshiftRight kCShift = BitVec.ofInt 32 (t / 2 ^ kCShift) := by
    rw [BitVec.sshiftRight_eq, toInt_ofInt_of_fits32 h, Int.shiftRight_eq_div_pow, Nat.cast_pow, Nat.cast_ofNat]
  rw [hcorr32, hcorr, hshift, ofInt_sub, BitVec.ofInt_mul]

/-- A signed comparison of words is the comparison of the integers they hold (R80). -/
theorem slt_ofInt_iff (hx : Fits32 x) (hy : Fits32 y) :
    (BitVec.ofInt 32 x).slt (BitVec.ofInt 32 y) = true ↔ x < y := by
  rw [BitVec.slt_iff_toInt_lt, toInt_ofInt_of_fits32 hx, toInt_ofInt_of_fits32 hy]

/-- HCLAMP compares, so it needs its operand whole (R77, R79). -/
theorem hclamp32_ofInt (h : Fits32 x) : hclamp32 (BitVec.ofInt 32 x) = BitVec.ofInt 32 (hclamp x) := by
  have hmin : Fits32 kHMin := by rw [kHMin_eq]; exact fits32_of_bounds (by decide) (by decide)
  have hmax : Fits32 kHMax := by rw [kHMax_eq]; exact fits32_of_bounds (by decide) (by decide)
  simp only [hclamp32, slt_ofInt_iff h hmin, slt_ofInt_iff hmax h, ← apply_ite (BitVec.ofInt 32)]
  congr 1
  rw [hclamp_eq, kHMin_eq, kHMax_eq]
  split_ifs <;> omega

/-- HCONV, where the temperature and the sum before the clamp fit (R78, R79). -/
theorem hconv32_ofInt {rawH : RawWord} (ht : Fits32 t) (hsum : Fits32 (hunc rawH + hcorr t)) :
    hconv32 rawH (BitVec.ofInt 32 t) = BitVec.ofInt 32 (hconv rawH t) := by
  rw [hconv32, hunc32_eq, hcorr32_ofInt ht, ← BitVec.ofInt_add, hclamp32_ofInt hsum, hconv]

/-! ### The obligations -/

/-- Settles O20: the fields of the number R70 gives the raw word. -/
theorem rawWordIsBigEndianAndMasked : Obligations.RawWordIsBigEndianAndMasked := by
  intro b0 b1
  rw [raw16_toNat]
  refine ⟨rfl, ?_, ?_, ?_⟩ <;> omega

/-- Settles O21: a sample acts through its raw word and its checksum test, and the status bits are not in the raw
word. -/
theorem statusBitsReachOnlyTheChecksum : Obligations.StatusBitsReachOnlyTheChecksum := by
  refine ⟨fun raw => ⟨?_, exists_raw16_eq⟩, fun b0 b1 => ?_, exists_code14_raw16_eq, fun b0 b1 c1 s h => ?_⟩
  · rintro ⟨b0, b1, rfl⟩
    rw [raw16_toNat_eq_rawNum, rawNum_mod_four]
  · rw [raw16_toNat_eq_rawNum, rawNum_eq_four_mul_code14]
  · have hraw := raw16_congr b0 h
    have hcrc := (crcOk_crc8 b0 b1).trans (crcOk_crc8 b0 c1).symm
    exact ⟨hraw, execTsamp_congr hraw hcrc, execHsamp_congr hraw hcrc⟩

/-- Settles O22: the formula in counts divided by its scale. -/
theorem temperatureIsTheDocumentFormula : Obligations.TemperatureIsTheDocumentFormula :=
  fun b0 b1 => ⟨tconv_raw16 b0 b1, tconv_div_scale b0 b1⟩

/-- Settles O23: by the quotient, as 4,393 q is neither 19,189,760 (0 degrees) nor 29,429,760 (25 degrees). -/
theorem temperatureCountsAreMultiplesOfSixteen : Obligations.TemperatureCountsAreMultiplesOfSixteen := by
  refine ⟨tconv_raw16_eq_code14, fun r s hlt => ?_, by decide, by decide, fun b0 b1 => ?_⟩
  · rw [tconv_eq, tconv_eq]
    omega
  · obtain ⟨hlo, hhi⟩ := tconv_raw16_bounds b0 b1
    have hcode := tconv_raw16_eq_code14 b0 b1
    refine ⟨hlo, hhi, by omega, fun h => ?_⟩
    have hcounts : tconv (raw16 b0 b1) = 25 * 6553600 := by
      exact_mod_cast (div_eq_iff (by norm_num)).mp h
    omega

/-- Settles O24: the formula in counts divided by its scale, and its range. -/
theorem uncompensatedHumidityIsTheDocumentFormula : Obligations.UncompensatedHumidityIsTheDocumentFormula :=
  fun b0 b1 => ⟨hunc_raw16 b0 b1, hunc_div_scale b0 b1, hunc_raw16_bounds b0 b1⟩

/-- Settles O25: a temperature is a multiple of 16, so the correction is the document's term and has its sign. -/
theorem correctionIsTheDocumentTerm : Obligations.CorrectionIsTheDocumentTerm := fun b0 b1 =>
  have hmod := tconv_raw16_mod_sixteen b0 b1
  ⟨hcorr_eq _, hmod, hcorr_div_scale hmod, hcorr_neg_of_lt hmod, hcorr_pos_of_lt hmod⟩

/-- Settles O26: the entries are linear in the code, so their bounds, step and sign are arithmetic. -/
theorem correctionTableEqualsCorrection : Obligations.CorrectionTableEqualsCorrection := by
  refine ⟨hcorrLut_code14_raw16, fun q => ?_, fun q r hr => ?_, by decide, by decide⟩
  · obtain ⟨hlo, hhi⟩ := hcorrLut_bounds q
    have hentry := hcorrLut_eq q
    refine ⟨hentry, ?_, ?_, ?_, ?_⟩ <;> omega
  · rw [hcorrLut_eq, hcorrLut_eq, hr]
    omega

/-- Settles O27: the three cases of the clamp. -/
theorem clampKeepsTheInclusiveRange : Obligations.ClampKeepsTheInclusiveRange := by
  intro x
  rw [hclamp_eq]
  refine ⟨?_, ?_, ?_⟩ <;> omega

/-- Settles O28: each function of the engine is the document's formula in its unit, and the clamp commutes with the
scale. -/
theorem humidityIsTheDocumentFormula : Obligations.HumidityIsTheDocumentFormula := by
  intro t0 t1 h0 h1
  have hrange := hconv_bounds (raw16 h0 h1) (tconv (raw16 t0 t1))
  refine ⟨hconv_raw16 .., hrange.1, hrange.2, tconv_div_scale t0 t1, ?_⟩
  rw [hconv, hclamp_div_scale, Int.cast_add, add_div, hunc_div_scale,
    hcorr_div_scale (tconv_raw16_mod_sixteen t0 t1), tconv_div_scale]

/-- Settles O30: the datapath commutes with reduction to 32 bits wherever the intermediate values fit, and R79's
ranges say that they do. -/
theorem thirtyTwoBitDatapathEqualsIntegers : Obligations.ThirtyTwoBitDatapathEqualsIntegers := by
  intro t0 t1 h0 h1 t u c
  obtain ⟨htlo, hthi⟩ : -307036160 ≤ t ∧ t ≤ 844492144 := tconv_raw16_bounds t0 t1
  obtain ⟨hulo, huhi⟩ : -49152000 ≤ u ∧ u ≤ 974785500 := hunc_raw16_bounds h0 h1
  obtain ⟨hclo, hchi⟩ : -88289280 ≤ c ∧ c ≤ 127622277 := hcorr_tconv_raw16_bounds t0 t1
  obtain ⟨hne0, hne100⟩ : u + c ≠ 0 ∧ u + c ≠ 819200000 := hunc_add_hcorr_ne_bound t0 t1 h0 h1
  obtain ⟨hxlo, hxhi⟩ : 0 ≤ hconv (raw16 h0 h1) t ∧ hconv (raw16 h0 h1) t ≤ 819200000 := hconv_bounds _ _
  have := rawNum_le t0 t1
  have := rawNum_le h0 h1
  have htfits : Fits32 t := fits32_of_bounds (by omega) (by omega)
  refine ⟨by omega, ?_, ?_, ?_, ?_⟩
  · rw [tconv32_eq, toInt_ofInt_of_fits32 htfits]
  · rw [hunc32_eq, toInt_ofInt_of_fits32 (fits32_of_bounds (x := u) (by omega) (by omega))]
  · rw [tconv32_eq, hcorr32_ofInt htfits, toInt_ofInt_of_fits32 (fits32_of_bounds (x := c) (by omega) (by omega))]
  · rw [tconv32_eq, hconv32_ofInt htfits (fits32_of_bounds (x := u + c) (by omega) (by omega)),
      toInt_ofInt_of_fits32 (fits32_of_bounds (by omega) (by omega))]

end Sys2Proof.Proofs
end

section
/-! The measurement-cycle commands (spec/42_measurement_cycle.md rules R90 to R93): the words of the samples, each
outcome of MBEGIN, TSAMP and HSAMP with its response word, and the transition table. -/

namespace Sys2Proof.Proofs
open Sys2Proof Sys2Proof.Machine Sys2Proof.Claims

variable {s : State} {cnt : ByteCount} {b0 b1 b2 : Byte}

/-! ### The words of the samples -/

/-- CNT in the first byte of a sample's word, below OP (R44). -/
theorem sampleHead_setWidth (op : BitVec 4) (cnt : ByteCount) :
    (op ++ cnt ++ 0#2).setWidth 32 <<< 24 = op.setWidth 32 <<< 28 ||| cnt.setWidth 32 <<< 26 := by
  revert op cnt
  decide

/-- The word of a sample as its fields stand in it (R44). -/
theorem sampleWord_eq_or (op : BitVec 4) (cnt : ByteCount) (b0 b1 b2 : Byte) :
    op ++ cnt ++ 0#2 ++ b0 ++ b1 ++ b2 =
      (op.setWidth 32 <<< 28 ||| cnt.setWidth 32 <<< 26 ||| b0.setWidth 32 <<< 16 ||| b1.setWidth 32 <<< 8 |||
        b2.setWidth 32) := by
  rw [← sampleHead_setWidth]
  exact (BitVec.setWidth_eq _).symm.trans BitVec.setWidth_append_append_append_eq_shiftLeft_setWidth_or

theorem encode_tsamp_eq_or (cnt : ByteCount) (b0 b1 b2 : Byte) :
    encode (.tsamp cnt b0 b1 b2) =
      (0x30000000 ||| cnt.setWidth 32 <<< 26 ||| b0.setWidth 32 <<< 16 ||| b1.setWidth 32 <<< 8 |||
        b2.setWidth 32) :=
  sampleWord_eq_or 3 cnt b0 b1 b2

theorem encode_hsamp_eq_or (cnt : ByteCount) (b0 b1 b2 : Byte) :
    encode (.hsamp cnt b0 b1 b2) =
      (0x40000000 ||| cnt.setWidth 32 <<< 26 ||| b0.setWidth 32 <<< 16 ||| b1.setWidth 32 <<< 8 |||
        b2.setWidth 32) :=
  sampleWord_eq_or 4 cnt b0 b1 b2

/-! ### Responses -/

/-- A response whose ST is known as a number (R50). -/
theorem respond_eq_of_st {ok : Bool} {err : ErrCode} {st : Nat} (d : DataWord)
    (h : ok.toNat * 128 + err.code.toNat * 16 + stLow s = st) :
    respond ok err d s = { s with cmd := none, rsp := some (rsp40 st d) } := by
  rw [respond_eq, h]

/-- The temperature as the claims write it is the word TSAMP stores (R72, R91). -/
theorem sext32_tconv (b0 b1 : Byte) : sext32 (tconv (raw16 b0 b1)) = temperature b0 b1 := by
  rw [sext32, tconv_raw16, temperature]

/-- With no reading in IDLE the state bits are zero (R50). -/
theorem stLow_of_idle_without_readings (hp : s.phase = .idle) (htv : s.tv = false) (hhv : s.hv = false) :
    stLow s = 0 := by
  simp [stLow, phaseNum, hp, htv, hhv]

/-- A TSAMP that fails while no humidity is held leaves no reading (R91). -/
theorem stLow_failT (hhv : s.hv = false) : stLow (failT s) = 0 :=
  stLow_of_idle_without_readings rfl rfl hhv

theorem stLow_failH (s : State) : stLow (failH s) = 0 :=
  stLow_of_idle_without_readings rfl rfl rfl

/-! ### The triples with an open cycle -/

/-- In WANT_T the block holds no reading (R14). -/
theorem flags_of_wantT (h : cycleTriple s ∈ cycleTriples) (hp : s.phase = .wantT) :
    s.tv = false ∧ s.hv = false := by
  simpa [cycleTriple, cycleTriples, hp] using h

/-- In WANT_H the block holds the temperature alone (R14). -/
theorem flags_of_wantH (h : cycleTriple s ∈ cycleTriples) (hp : s.phase = .wantH) :
    s.tv = true ∧ s.hv = false := by
  simpa [cycleTriple, cycleTriples, hp] using h

/-! ### The outcomes of TSAMP -/

/-- TSAMP outside WANT_T (R91). -/
theorem exec_tsamp_of_wrong_phase (hp : s.phase ≠ .wantT) : exec (.tsamp cnt b0 b1 b2) s =
    .next { s with cmd := none, rsp := some (rsp40 (0x30 + stLow s) 0) } := by
  rw [exec, execTsamp_of_wrong_phase hp, respond_eq]
  rfl

/-- TSAMP of a short read while no humidity is held (R91). -/
theorem exec_tsamp_of_short (hp : s.phase = .wantT) (hhv : s.hv = false) (hc : cnt ≠ 3) :
    exec (.tsamp cnt b0 b1 b2) s =
      .next { s with phase := .idle, tv := false, tFx := none, cmd := none, rsp := some 0x1000000000 } := by
  rw [exec, execTsamp_of_short hp hc, respond_eq, stLow_failT hhv]
  rfl

/-- TSAMP of a complete sample with a wrong checksum while no humidity is held (R91). -/
theorem exec_tsamp_of_mismatch (hp : s.phase = .wantT) (hhv : s.hv = false) (hc : cnt = 3)
    (hk : crc8 b0 b1 ≠ b2) : exec (.tsamp cnt b0 b1 b2) s =
      .next { s with phase := .idle, tv := false, tFx := none, cmd := none, rsp := some 0x2000000000 } := by
  rw [exec, execTsamp_of_mismatch hp hc hk, respond_eq, stLow_failT hhv]
  rfl

/-- TSAMP of a good sample while no humidity is held (R91). -/
theorem exec_tsamp_of_good (hp : s.phase = .wantT) (hhv : s.hv = false) (hc : cnt = 3) (hk : crc8 b0 b1 = b2) :
    exec (.tsamp cnt b0 b1 b2) s =
      .next { s with phase := .wantH, tv := true, tFx := some (temperature b0 b1), cmd := none,
                     rsp := some (rsp40 0x89 (temperature b0 b1)) } := by
  rw [exec, execTsamp_of_good hp hc hk, sext32_tconv, respond_eq_of_st (st := 0x89)]
  · rfl
  · simp [stLow, phaseNum, hhv, ErrCode.code]

/-! ### The outcomes of HSAMP -/

/-- HSAMP outside WANT_H, or without TV (R92). -/
theorem exec_hsamp_of_wrong_phase (hp : s.phase ≠ .wantH ∨ s.tv ≠ true) : exec (.hsamp cnt b0 b1 b2) s =
    .next { s with cmd := none, rsp := some (rsp40 (0x30 + stLow s) 0) } := by
  rw [exec, execHsamp_of_wrong_phase (by simpa using hp), respond_eq]
  rfl

/-- HSAMP of a short read (R92). -/
theorem exec_hsamp_of_short (hp : s.phase = .wantH) (htv : s.tv = true) (hc : cnt ≠ 3) :
    exec (.hsamp cnt b0 b1 b2) s =
      .next { s with phase := .idle, tv := false, tFx := none, hv := false, hFx := none, cmd := none,
                     rsp := some 0x1000000000 } := by
  rw [exec, execHsamp_of_short hp htv hc, respond_eq, stLow_failH]
  rfl

/-- HSAMP of a complete sample with a wrong checksum (R92). -/
theorem exec_hsamp_of_mismatch (hp : s.phase = .wantH) (htv : s.tv = true) (hc : cnt = 3)
    (hk : crc8 b0 b1 ≠ b2) : exec (.hsamp cnt b0 b1 b2) s =
      .next { s with phase := .idle, tv := false, tFx := none, hv := false, hFx := none, cmd := none,
                     rsp := some 0x2000000000 } := by
  rw [exec, execHsamp_of_mismatch hp htv hc hk, respond_eq, stLow_failH]
  rfl

/-- HSAMP of a good sample with a temperature (R92). -/
theorem exec_hsamp_of_good {v : DataWord} (hp : s.phase = .wantH) (htv : s.tv = true) (hc : cnt = 3)
    (hk : crc8 b0 b1 = b2) (hv : s.tFx = some v) : exec (.hsamp cnt b0 b1 b2) s =
      .next { s with phase := .idle, hv := true, hFx := some (BitVec.ofInt 32 (humidity b0 b1 v.toInt)),
                     cmd := none, rsp := some (rsp40 0x83 (BitVec.ofInt 32 (humidity b0 b1 v.toInt))) } := by
  rw [exec, execHsamp_of_good hp htv hc hk hv, zext32_hconv, respond_eq_of_st (st := 0x83)]
  · rfl
  · simp [stLow, phaseNum, htv, ErrCode.code]

/-! ### The rows of the transition table -/

/-- Command `i` answers in state `s`, and the triple of R14 is `triple` after it: a row of R93 that is no refusal. -/
def MovesTo (i : Instr) (s : State) (triple : Phase × Bool × Bool) : Prop :=
  ∃ t r, exec i s = .next t ∧ t.rsp = some r ∧ cycleTriple t = triple

/-- MBEGIN opens a cycle from every state (R90, R93). -/
theorem mbegin_movesTo (s : State) : MovesTo .mbegin s (.wantT, false, false) :=
  ⟨_, _, rfl, respond_rsp .., rfl⟩

/-- TSAMP in WANT_T with no humidity: to WANT_H by a good sample, to IDLE by any other (R93). -/
theorem tsamp_movesTo (hp : s.phase = .wantT) (hhv : s.hv = false) :
    MovesTo (.tsamp cnt b0 b1 b2) s
      (if decide (cnt = 3 ∧ crc8 b0 b1 = b2) then (.wantH, true, false) else (.idle, false, false)) := by
  by_cases hc : cnt = 3
  · by_cases hk : crc8 b0 b1 = b2
    · exact ⟨_, _, exec_tsamp_of_good hp hhv hc hk, rfl, by simp [cycleTriple, hhv, hc, hk]⟩
    · exact ⟨_, _, exec_tsamp_of_mismatch hp hhv hc hk, rfl, by simp [cycleTriple, hhv, hk]⟩
  · exact ⟨_, _, exec_tsamp_of_short hp hhv hc, rfl, by simpa [cycleTriple, hhv] using fun h => absurd h hc⟩

/-- HSAMP in WANT_H with a temperature: to IDLE with both readings by a good sample, with neither by any other (R93). -/
theorem hsamp_movesTo (hp : s.phase = .wantH) (htv : s.tv = true) (hmarks : MarksRight s) :
    MovesTo (.hsamp cnt b0 b1 b2) s
      (if decide (cnt = 3 ∧ crc8 b0 b1 = b2) then (.idle, true, true) else (.idle, false, false)) := by
  by_cases hc : cnt = 3
  · by_cases hk : crc8 b0 b1 = b2
    · obtain ⟨v, hv⟩ : ∃ v, s.tFx = some v := Option.isSome_iff_exists.mp (hmarks.1.symm.trans htv)
      exact ⟨_, _, exec_hsamp_of_good hp htv hc hk hv, rfl, by simp [cycleTriple, htv, hc, hk]⟩
    · exact ⟨_, _, exec_hsamp_of_mismatch hp htv hc hk, rfl, by simp [cycleTriple, hk]⟩
  · exact ⟨_, _, exec_hsamp_of_short hp htv hc, rfl, by simpa [cycleTriple] using fun h => absurd h hc⟩

/-- Outside WANT_T the table refuses TSAMP (R93). -/
theorem cycleAfter_tsamp_of_ne (hp : s.phase ≠ .wantT) (good : Bool) :
    cycleAfter (cycleTriple s) (.tsamp cnt b0 b1 b2) good = none := by
  cases h : s.phase <;> simp_all [cycleAfter, cycleTriple]

/-- Outside WANT_H the table refuses HSAMP (R93). -/
theorem cycleAfter_hsamp_of_ne (hp : s.phase ≠ .wantH) (good : Bool) :
    cycleAfter (cycleTriple s) (.hsamp cnt b0 b1 b2) good = none := by
  cases h : s.phase <;> simp_all [cycleAfter, cycleTriple]

/-! ### The obligations -/

/-- Settles O31: MBEGIN has one outcome, and its ST is that of WANT_T without readings. -/
theorem mbeginClearsAndOpensACycle : Obligations.MbeginClearsAndOpensACycle := by
  refine ⟨by decide, fun s => ?_⟩
  rw [exec, execMbegin, succeed_eq, respond_eq_of_st (st := 0x84) 0 rfl]
  rfl

/-- Settles O56: the outcomes of TSAMP; in WANT_T the four triples leave HV = 0. -/
theorem tsampAnswersAsItsRuleStates : Obligations.TsampAnswersAsItsRuleStates := by
  refine fun cnt b0 b1 b2 s => ⟨encode_tsamp_eq_or cnt b0 b1 b2, exec_tsamp_of_wrong_phase, fun htriple hp => ?_⟩
  obtain ⟨-, hhv⟩ := flags_of_wantT htriple hp
  exact ⟨exec_tsamp_of_short hp hhv, exec_tsamp_of_mismatch hp hhv, exec_tsamp_of_good hp hhv⟩

/-- Settles O33: the outcomes of HSAMP. The model's compensation agrees with the claims' on every temperature, so that
it is a multiple of 16 is not used. -/
theorem hsampFollowsItsRule : Obligations.HsampFollowsItsRule := fun cnt b0 b1 b2 _ =>
  ⟨encode_hsamp_eq_or cnt b0 b1 b2, exec_hsamp_of_wrong_phase, exec_hsamp_of_short, exec_hsamp_of_mismatch,
    fun _ hp htv hc hk hv _ => exec_hsamp_of_good hp htv hc hk hv⟩

/-- Settles O35: each command in its own phase moves the triple, and a sample in any other phase is refused. -/
theorem cycleCommandsFollowTheTransitionTable : Obligations.CycleCommandsFollowTheTransitionTable := by
  intro i cnt b0 b1 b2 s htriple hmarks hi
  obtain rfl | rfl | rfl : i = .mbegin ∨ i = .tsamp cnt b0 b1 b2 ∨ i = .hsamp cnt b0 b1 b2 := by simpa using hi
  · exact mbegin_movesTo s
  · by_cases hp : s.phase = .wantT
    · obtain ⟨htv, hhv⟩ := flags_of_wantT htriple hp
      rw [cycleTriple, hp, htv, hhv]
      exact tsamp_movesTo hp hhv
    · rw [cycleAfter_tsamp_of_ne hp]
      exact tsamp_refusedWith_seq hp
  · by_cases hp : s.phase = .wantH
    · obtain ⟨htv, hhv⟩ := flags_of_wantH htriple hp
      rw [cycleTriple, hp, htv, hhv]
      exact hsamp_movesTo hp htv hmarks
    · rw [cycleAfter_hsamp_of_ne hp]
      exact hsamp_refusedWith_seq (.inl hp)

end Sys2Proof.Proofs
end

section
/-! Whose temperature a humidity is compensated with (spec/42_measurement_cycle.md rule R95): what the command words
since reset tell about the open cycle, kept by every word. -/

namespace Sys2Proof.Proofs
open Sys2Proof Sys2Proof.Machine Sys2Proof.Claims

variable {ws : List CmdWord} {w : CmdWord} {s t : State} {a0 a1 : Byte}

/-! ### Cycles in a sequence of command words -/

/-- The words hold an MBEGIN: `middle` are those after the last one. -/
def CycleOpened (ws : List CmdWord) : Prop :=
  ∃ before middle, ws = before ++ [encode .mbegin] ++ middle ∧ ∀ w ∈ middle, decode w ≠ .ok .mbegin

/-- After the last MBEGIN the words hold a good TSAMP of the sample `a0`, `a1`, and no HSAMP after it. -/
def CycleSampled (ws : List CmdWord) (a0 a1 : Byte) : Prop :=
  ∃ before middle later,
    ws = before ++ [encode .mbegin] ++ middle ++ [encode (.tsamp 3 a0 a1 (crc8 a0 a1))] ++ later ∧
    (∀ w ∈ middle ++ later, decode w ≠ .ok .mbegin) ∧
    (∀ w ∈ later, ∀ c d0 d1 d2, decode w ≠ .ok (.hsamp c d0 d1 d2))

theorem cycleOpened_append_mbegin (ws : List CmdWord) : CycleOpened (ws ++ [encode .mbegin]) :=
  ⟨ws, [], by simp, by simp⟩

theorem CycleOpened.append (h : CycleOpened ws) (hm : decode w ≠ .ok .mbegin) : CycleOpened (ws ++ [w]) := by
  obtain ⟨before, middle, rfl, hmiddle⟩ := h
  refine ⟨before, middle ++ [w], by simp, ?_⟩
  simpa [or_imp, forall_and] using ⟨hmiddle, hm⟩

theorem CycleOpened.append_tsamp (h : CycleOpened ws) (a0 a1 : Byte) :
    CycleSampled (ws ++ [encode (.tsamp 3 a0 a1 (crc8 a0 a1))]) a0 a1 := by
  obtain ⟨before, middle, rfl, hmiddle⟩ := h
  exact ⟨before, middle, [], by simp, by simpa using hmiddle, by simp⟩

theorem CycleSampled.append (h : CycleSampled ws a0 a1) (hm : decode w ≠ .ok .mbegin)
    (hh : ∀ c d0 d1 d2, decode w ≠ .ok (.hsamp c d0 d1 d2)) : CycleSampled (ws ++ [w]) a0 a1 := by
  obtain ⟨before, middle, later, rfl, hmbegin, hhsamp⟩ := h
  refine ⟨before, middle, later ++ [w], by simp, fun x hx => ?_, fun x hx => ?_⟩
  · rw [← List.append_assoc, List.mem_append, List.mem_singleton] at hx
    obtain hx | rfl := hx
    · exact hmbegin x hx
    · exact hm
  · rw [List.mem_append, List.mem_singleton] at hx
    obtain hx | rfl := hx
    · exact hhsamp x hx
    · exact hh

/-! ### What the words tell about the state they lead to -/

/-- In WANT_T the words `ws` hold an open cycle; in WANT_H they hold its temperature sample, which is the temperature of
the state `s` (R95). -/
structure CycleTrace (ws : List CmdWord) (s : State) : Prop where
  opened : s.phase = .wantT → CycleOpened ws
  sampled : s.phase = .wantH → s.tv = true ∧ ∃ a0 a1, CycleSampled ws a0 a1 ∧ s.tFx = some (temperature a0 a1)

theorem cycleTrace_of_idle (hp : s.phase = .idle) : CycleTrace ws s :=
  ⟨by simp [hp], by simp [hp]⟩

/-- A word that is no MBEGIN and writes nothing continues the trace; in WANT_H only if it is no HSAMP. -/
theorem CycleTrace.append (h : CycleTrace ws s) (hitems : items t = items s) (hm : decode w ≠ .ok .mbegin)
    (hh : s.phase = .wantH → ∀ c d0 d1 d2, decode w ≠ .ok (.hsamp c d0 d1 d2)) : CycleTrace (ws ++ [w]) t := by
  obtain ⟨hphase, htv, -, htFx, -⟩ : t.phase = s.phase ∧ t.tv = s.tv ∧ t.hv = s.hv ∧
      t.tFx = s.tFx ∧ t.hFx = s.hFx := by simpa [items] using hitems
  refine ⟨fun hp => (h.opened (hphase ▸ hp)).append hm, fun hp => ?_⟩
  have hp : s.phase = .wantH := hphase ▸ hp
  obtain ⟨hmark, a0, a1, hsampled, hheld⟩ := h.sampled hp
  exact ⟨htv.trans hmark, a0, a1, hsampled.append hm (hh hp), htFx.trans hheld⟩

/-- A TSAMP is refused outside WANT_T, ends the cycle, or gives it its temperature (R91). -/
theorem CycleTrace.tsamp {cnt : ByteCount} {b0 b1 b2 : Byte} (h : CycleTrace ws s)
    (hw : decode w = .ok (.tsamp cnt b0 b1 b2)) (ht : exec (.tsamp cnt b0 b1 b2) s = .next t) :
    CycleTrace (ws ++ [w]) t := by
  obtain ⟨-, rfl⟩ | ⟨-, -, rfl⟩ | ⟨-, -, -, rfl⟩ | ⟨hp, rfl, rfl, rfl⟩ := execTsamp_cases ht
  · exact h.append rfl (by simp [hw]) (by simp [hw])
  · exact cycleTrace_of_idle rfl
  · exact cycleTrace_of_idle rfl
  · have hsampled := (h.opened hp).append_tsamp b0 b1
    rw [encode_of_decode hw] at hsampled
    exact ⟨by simp, fun _ => ⟨rfl, b0, b1, hsampled, by simp [sext32_tconv]⟩⟩

/-- An HSAMP is refused outside WANT_H or ends the cycle: in WANT_H the temperature is there (R92). -/
theorem CycleTrace.hsamp {cnt : ByteCount} {b0 b1 b2 : Byte} (h : CycleTrace ws s)
    (hw : decode w = .ok (.hsamp cnt b0 b1 b2)) (ht : exec (.hsamp cnt b0 b1 b2) s = .next t) :
    CycleTrace (ws ++ [w]) t := by
  obtain ⟨hrefused, rfl⟩ | ⟨-, -, -, rfl⟩ | ⟨-, -, -, -, rfl⟩ | ⟨hp, -, -, -, hnone, -⟩ |
    ⟨v, -, -, -, -, -, rfl⟩ := execHsamp_cases ht
  · have hp : s.phase ≠ .wantH := fun hp => by
      obtain ⟨htv, -⟩ := h.sampled hp
      simp [hp, htv] at hrefused
    exact h.append rfl (by simp [hw]) (fun hp' => absurd hp' hp)
  · exact cycleTrace_of_idle rfl
  · exact cycleTrace_of_idle rfl
  · obtain ⟨-, a0, a1, -, hheld⟩ := h.sampled hp
    simp [hheld] at hnone
  · exact cycleTrace_of_idle rfl

/-- Every word continues the trace. -/
theorem CycleTrace.execWord (h : CycleTrace ws s) (ht : execWord w s = .next t) : CycleTrace (ws ++ [w]) t := by
  obtain ⟨i, hw, hexec⟩ | ⟨⟨e, hw⟩, hill⟩ := execWord_cases w s
  · rw [hexec] at ht
    cases i with
    | crcchk b0 b1 b2 => exact h.append (items_of_crcchk ht) (by simp [hw]) (by simp [hw])
    | mbegin =>
      obtain rfl := execMbegin_cases ht
      exact ⟨fun _ => encode_of_decode hw ▸ cycleOpened_append_mbegin ws, by simp⟩
    | tsamp cnt b0 b1 b2 => exact h.tsamp hw ht
    | hsamp cnt b0 b1 b2 => exact h.hsamp hw ht
    | rdreg reg => exact h.append (items_of_rdreg ht) (by simp [hw]) (by simp [hw])
  · obtain rfl : respond false .ill 0 s = t := by simpa using hill.symm.trans ht
    exact h.append rfl (by simp [hw]) (by simp [hw])

/-- `after` is the next state that executing the word answers (R37, R148). -/
theorem execWord_eq_after (w : CmdWord) (s : State) : execWord w s = .next (after w s) := by
  obtain ⟨i, -, hexec⟩ | ⟨-, hill⟩ := execWord_cases w s
  · obtain ⟨ok, err, d, u, hnext, -⟩ := exec_responds i s
    simp [after, hexec, hnext]
  · simp [after, hill]

theorem afterAll_append_singleton (ws : List CmdWord) (w : CmdWord) (s : State) :
    afterAll (ws ++ [w]) s = after w (afterAll ws s) := by
  simp [afterAll]

/-- The words executed since reset are the trace of the state they lead to. -/
theorem cycleTrace_afterAll (ws : List CmdWord) : CycleTrace ws (afterAll ws State.reset) := by
  induction ws using List.reverseRecOn with
  | nil => exact cycleTrace_of_idle rfl
  | append_singleton ws w ih =>
    rw [afterAll_append_singleton]
    exact ih.execWord (execWord_eq_after w _)

/-! ### The humidity of a good sample -/

/-- An HSAMP that answers OK met a temperature in WANT_H and stores the humidity compensated with it (R92). -/
theorem hsamp_of_ok {cnt : ByteCount} {b0 b1 b2 : Byte} {r : RspWord}
    (h : exec (.hsamp cnt b0 b1 b2) s = .next t) (hr : t.rsp = some r) (hok : okNum r = 1) :
    ∃ v, s.phase = .wantH ∧ s.tFx = some v ∧ t.hFx = some (BitVec.ofInt 32 (humidity b0 b1 v.toInt)) := by
  have hrefusal : ∀ err u, t ≠ respond false err 0 u := by
    rintro err u rfl
    obtain rfl : responseWord false err 0 u = r := by simpa using hr
    simp [okNum_responseWord] at hok
  obtain ⟨-, ht⟩ | ⟨-, -, -, ht⟩ | ⟨-, -, -, -, ht⟩ | ⟨-, -, -, -, -, ht⟩ | ⟨v, hp, -, -, -, hv, rfl⟩ :=
    execHsamp_cases h
  · exact absurd ht (hrefusal _ _)
  · exact absurd ht (hrefusal _ _)
  · exact absurd ht (hrefusal _ _)
  · exact absurd ht (hrefusal _ _)
  · exact ⟨v, hp, hv, by simp [zext32_hconv]⟩

/-- A temperature word reads back as the counts it was made from (R79). -/
theorem temperature_toInt (a0 a1 : Byte) : (temperature a0 a1).toInt = tconv (raw16 a0 a1) := by
  obtain ⟨hlo, hhi⟩ := tconv_raw16_bounds a0 a1
  rw [← sext32_tconv, sext32, toInt_ofInt_of_fits32 (fits32_of_bounds (by omega) (by omega))]

/-! ### The obligation -/

/-- Settles O37: the words since reset are a trace of the open cycle, so in WANT_H the temperature is the one its own
TSAMP gave. -/
theorem humidityUsesTheTemperatureOfItsOwnCycle : Obligations.HumidityUsesTheTemperatureOfItsOwnCycle := by
  intro ws b0 b1 b2 t r h hr hok
  obtain ⟨v, hp, hv, hstored⟩ := hsamp_of_ok h hr hok
  obtain ⟨-, a0, a1, ⟨before, middle, later, hws, hmbegin, hhsamp⟩, hheld⟩ := (cycleTrace_afterAll ws).sampled hp
  obtain rfl : v = temperature a0 a1 := by simpa using hv.symm.trans hheld
  rw [temperature_toInt] at hstored
  exact ⟨before, middle, later, a0, a1, hws, hmbegin, hhsamp, hheld, hstored⟩

end Sys2Proof.Proofs
end

section
/-! Register access (spec/43_register_access.md rules R110 and R111): RDREG's word and its answer for each register,
and which steps give a reading a value. -/

namespace Sys2Proof.Proofs
open Sys2Proof Sys2Proof.Machine Sys2Proof.Claims

variable {s t : State} {i : Instr} {reg : RegNum}

/-! ### The word and the answer of RDREG -/

/-- The word of RDREG as its field stands in it (R45). -/
theorem encode_rdreg_eq_or (reg : RegNum) : encode (.rdreg reg) = (0x50000000 ||| reg.setWidth 32) := by
  revert reg
  decide

/-- RDREG of a register answers its content and writes the ports alone (R110). -/
theorem exec_rdreg_of_regOf {q : Reg} (h : regOf reg = some q) : exec (.rdreg reg) s =
    .next { s with cmd := none, rsp := some (rsp40 (0x80 + stLow s) (readReg q s)) } := by
  simp only [exec, execRdreg, h, succeed_eq, respond_eq]
  rfl

/-- Register 8 + k is KROM[k] (R17). -/
theorem regOf_eq_krom {k : Nat} (h : reg.toNat = 8 + k) : regOf reg = some (.krom (Fin.ofNat 8 k)) := by
  have hne (c : RegNum) (hc : c.toNat < 8) : reg ≠ c := by
    rintro rfl
    omega
  rw [regOf, if_neg (hne 0 (by decide)), if_neg (hne 1 (by decide)), if_neg (hne 2 (by decide)),
    if_pos (by omega), h, Nat.add_sub_cancel_left]

/-- The table of R16 in decimal. -/
theorem krom_eq_getD (k : Fin 8) :
    krom k = ([17572, 307036160, 15625, 49152000, 30720000, 819200000, 6553600, 8192000] : List DataWord).getD k 0 := by
  revert k
  decide

/-! ### Which steps give a reading a value -/

/-- Every value a reading holds in `t` it held in `s`. -/
def NoReadingGained (s t : State) : Prop :=
  (∀ v, t.tFx = some v → s.tFx = some v) ∧ ∀ v, t.hFx = some v → s.hFx = some v

theorem noReadingGained_of_items_eq (h : items t = items s) : NoReadingGained s t := by
  obtain ⟨-, -, -, htFx, hhFx⟩ : t.phase = s.phase ∧ t.tv = s.tv ∧ t.hv = s.hv ∧
      t.tFx = s.tFx ∧ t.hFx = s.hFx := by simpa [items] using h
  exact ⟨fun _ => htFx.symm.trans, fun _ => hhFx.symm.trans⟩

theorem noReadingGained_of_no_readings (ht : t.tFx = none) (hh : t.hFx = none) : NoReadingGained s t := by
  simp [NoReadingGained, ht, hh]

/-- A TSAMP that fails loses the temperature and keeps the humidity (R91). -/
theorem noReadingGained_failT (s : State) : NoReadingGained s (failT s) := by
  simp [NoReadingGained, failT]

/-- TSAMP gives no reading a value, or the sample passed the checksum and T_FX takes its temperature (R91). -/
theorem tsamp_readings {cnt : ByteCount} {b0 b1 b2 : Byte} (h : exec (.tsamp cnt b0 b1 b2) s = .next t) :
    NoReadingGained s t ∨
      (cnt = 3 ∧ crc8 b0 b1 = b2 ∧ t.tFx = some (temperature b0 b1) ∧ t.hFx = s.hFx) := by
  obtain ⟨-, rfl⟩ | ⟨-, -, rfl⟩ | ⟨-, -, -, rfl⟩ | ⟨-, hc, hk, rfl⟩ := execTsamp_cases h
  · exact .inl (noReadingGained_of_items_eq (items_respond ..))
  · exact .inl (noReadingGained_failT s)
  · exact .inl (noReadingGained_failT s)
  · exact .inr ⟨hc, hk, by simp [sext32_tconv], by simp⟩

/-- HSAMP gives no reading a value, or the sample passed the checksum, a temperature is held, and H_FX takes the
humidity compensated with it (R92). -/
theorem hsamp_readings {cnt : ByteCount} {b0 b1 b2 : Byte} (h : exec (.hsamp cnt b0 b1 b2) s = .next t) :
    NoReadingGained s t ∨ (cnt = 3 ∧ crc8 b0 b1 = b2 ∧ t.tFx = s.tFx ∧
      ∃ u, s.tFx = some u ∧ t.hFx = some (BitVec.ofInt 32 (humidity b0 b1 u.toInt))) := by
  obtain ⟨-, rfl⟩ | ⟨-, -, -, rfl⟩ | ⟨-, -, -, -, rfl⟩ | ⟨-, -, -, -, -, rfl⟩ |
    ⟨u, -, -, hc, hk, hu, rfl⟩ := execHsamp_cases h
  · exact .inl (noReadingGained_of_items_eq (items_respond ..))
  · exact .inl (noReadingGained_of_no_readings rfl rfl)
  · exact .inl (noReadingGained_of_no_readings rfl rfl)
  · exact .inl (noReadingGained_of_items_eq (items_respond ..))
  · exact .inr ⟨hc, hk, by simp, u, hu, by simp [zext32_hconv]⟩

/-- A command gives no reading a value, or is a TSAMP or HSAMP whose sample passed the checksum (R111). -/
theorem exec_readings (h : exec i s = .next t) :
    NoReadingGained s t ∨
    (∃ b0 b1, i = .tsamp 3 b0 b1 (crc8 b0 b1) ∧ t.tFx = some (temperature b0 b1) ∧ t.hFx = s.hFx) ∨
    (∃ b0 b1 u, i = .hsamp 3 b0 b1 (crc8 b0 b1) ∧ t.tFx = s.tFx ∧ s.tFx = some u ∧
      t.hFx = some (BitVec.ofInt 32 (humidity b0 b1 u.toInt))) := by
  cases i with
  | crcchk b0 b1 b2 => exact .inl (noReadingGained_of_items_eq (items_of_crcchk h))
  | mbegin =>
    obtain rfl := execMbegin_cases h
    exact .inl (noReadingGained_of_no_readings rfl rfl)
  | tsamp cnt b0 b1 b2 =>
    obtain hnone | ⟨rfl, rfl, ht, hh⟩ := tsamp_readings h
    · exact .inl hnone
    · exact .inr (.inl ⟨b0, b1, rfl, ht, hh⟩)
  | hsamp cnt b0 b1 b2 =>
    obtain hnone | ⟨rfl, rfl, ht, u, hu, hh⟩ := hsamp_readings h
    · exact .inl hnone
    · exact .inr (.inr ⟨b0, b1, u, rfl, ht, hu, hh⟩)
  | rdreg reg => exact .inl (noReadingGained_of_items_eq (items_of_rdreg h))

/-- A step gives no reading a value, or executes a command: a reset, an illegal word and the handshake give none. -/
theorem noReadingGained_or_exec_of_step (h : step s = .next t) :
    NoReadingGained s t ∨ ∃ w i, Executes s w ∧ decode w = .ok i ∧ exec i s = .next t := by
  obtain ⟨-, rfl⟩ | ⟨hr, w, hcmd, hw⟩ | ⟨hr, -, rfl⟩ := step_cases h
  · exact .inl (noReadingGained_of_no_readings rfl rfl)
  · obtain ⟨i, hi, hexec⟩ | ⟨-, hill⟩ := execWord_cases w s
    · exact .inr ⟨w, i, ⟨hr, hcmd⟩, hi, hexec ▸ hw⟩
    · obtain rfl : respond false .ill 0 s = t := by simpa using hill.symm.trans hw
      exact .inl (noReadingGained_of_items_eq (items_respond ..))
  · exact .inl (noReadingGained_of_items_eq (items_portStep hr))

/-! ### The obligations -/

/-- Settles O47: a step that gives a reading a value executes a command, and only a sample that passed the checksum
does so. The compensation agrees with the claims' on every temperature, so that it is a multiple of 16 is not used. -/
theorem onlyCheckedSamplesSetAReading : Obligations.OnlyCheckedSamplesSetAReading := by
  intro s t h
  by_cases hnone : NoReadingGained s t
  · obtain ⟨ht, hh⟩ := hnone
    exact ⟨fun v hv hnew => absurd (ht v hv) hnew, fun v hv hnew => absurd (hh v hv) hnew⟩
  obtain ⟨w, i, hw, hi, hexec⟩ := (noReadingGained_or_exec_of_step h).resolve_left hnone
  obtain ⟨b0, b1, rfl, ht, hh⟩ | ⟨b0, b1, u, rfl, ht, hu, hh⟩ := (exec_readings hexec).resolve_left hnone
  · exact ⟨fun v hv _ => ⟨w, b0, b1, hw, hi, Option.some.inj (hv.symm.trans ht)⟩,
      fun v hv hnew => absurd (hh.symm.trans hv) hnew⟩
  · exact ⟨fun v hv hnew => absurd (ht.symm.trans hv) hnew,
      fun v hv _ => ⟨w, b0, b1, u, hw, hi, hu, fun _ => Option.some.inj (hv.symm.trans hh)⟩⟩

/-- Settles O43: RDREG answers the content of the register named, which is read off for each register. -/
theorem rdregReadsTheNamedRegister : Obligations.RdregReadsTheNamedRegister := by
  refine fun reg s => ⟨encode_rdreg_eq_or reg, ?_, ?_, ?_, fun k hk hreg => ?_⟩
  · rintro rfl
    rw [exec_rdreg_of_regOf (q := .status) rfl, readReg_status, statusWord_eq_ofNat_stLow]
  · rintro rfl
    rw [exec_rdreg_of_regOf (q := .tFx) rfl, readReg_tFx]
    cases s.tFx <;> rfl
  · rintro rfl
    rw [exec_rdreg_of_regOf (q := .hFx) rfl, readReg_hFx]
    cases s.hFx <;> rfl
  · rw [exec_rdreg_of_regOf (regOf_eq_krom hreg), readReg_krom, krom_eq_getD, Fin.val_ofNat, Nat.mod_eq_of_lt hk]

end Sys2Proof.Proofs
end

section
/-! Errors (spec/60_exceptions.md rules R123, R128 and R130): what the answer of a command shows, its error as a number
among it, and what each error of a sample leaves of the readings. -/

namespace Sys2Proof.Proofs
open Sys2Proof Sys2Proof.Machine Sys2Proof.Claims

variable {s t u : State} {w : CmdWord} {i : Instr} {r : RspWord} {e : Nat} {ok : Bool} {err : ErrCode} {d : DataWord}
  {cnt : ByteCount} {b0 b1 b2 : Byte}

/-! ### The answer of a command -/

/-- DATA of a response word as a number (R50). -/
theorem dataNum_responseWord (ok : Bool) (err : ErrCode) (d : DataWord) (s : State) :
    (responseWord ok err d s).toNat % 2 ^ 32 = d.toNat := by
  rw [responseWord_toNat_eq, Nat.mul_add_mod_self_right, Nat.mod_eq_of_lt d.isLt]

/-- The error a host reads from the port is the one answered with (R50, R52). -/
theorem errNum_of_respond (hr : (respond ok err d u).rsp = some r) : errNum r = err.code.toNat := by
  obtain rfl : responseWord ok err d u = r := by simpa using hr
  exact errNum_responseWord ok err d u

/-- A command has one answer, so the error read is that of the outcome known. -/
theorem errNum_of_exec (ht : exec i s = .next t) (hr : t.rsp = some r)
    (h : exec i s = .next (respond ok err d u)) : errNum r = err.code.toNat := by
  obtain rfl : respond ok err d u = t := by simpa using h.symm.trans ht
  exact errNum_of_respond hr

/-- A command has one answer, so a refusal is what it answers. -/
theorem refusal_of_refusedWith (h : RefusedWith e i s) (ht : exec i s = .next t) (hr : t.rsp = some r) :
    errNum r = e ∧ items t = items s := by
  obtain ⟨t', r', ht', hr', herr, hitems⟩ := h
  obtain rfl : t' = t := by simpa using ht'.symm.trans ht
  obtain rfl : r' = r := by simpa using hr'.symm.trans hr
  exact ⟨herr, hitems⟩

/-- A SEQ refusal as a host reads it: OK = 0, DATA = 0, the five items as they were (R120, R123). -/
theorem seqRefusal_of_exec (h : exec i s = .next (respond false .seq 0 s)) :
    ∃ t r, exec i s = .next t ∧ t.rsp = some r ∧ errNum r = 3 ∧ okNum r = 0 ∧ r.toNat % 2 ^ 32 = 0 ∧
      items t = items s :=
  ⟨_, _, h, respond_rsp .., errNum_responseWord .., okNum_responseWord .., dataNum_responseWord ..,
    items_respond ..⟩

/-- A step that executes the word of a command is that command's outcome (R47). -/
theorem exec_of_step (h : Executes s w) (hi : decode w = .ok i) (ht : step s = .next t) :
    exec i s = .next t := by
  rw [step_of_executes h, execWord, hi] at ht
  exact ht

/-! ### What the error of a sample leaves -/

/-- The cycle is over and neither reading holds a value (R130). -/
def IdleWithoutReadings (t : State) : Prop :=
  t.tFx = none ∧ t.hFx = none ∧ t.tv = false ∧ t.hv = false ∧ t.phase = .idle

/-- What a sample does to the items, by the error it answers: SEQ leaves them, BUS and CRC end the cycle without
readings (R130). -/
def SampleOutcome (s t : State) (r : RspWord) : Prop :=
  errNum r = 0 ∨ (errNum r = 3 ∧ items t = items s) ∨ ((errNum r = 1 ∨ errNum r = 2) ∧ IdleWithoutReadings t)

theorem SampleOutcome.idleWithoutReadings (h : SampleOutcome s t r) (herr : errNum r = 1 ∨ errNum r = 2) :
    IdleWithoutReadings t := by
  obtain hok | ⟨hseq, -⟩ | ⟨-, hidle⟩ := h
  · omega
  · omega
  · exact hidle

theorem SampleOutcome.items_eq (h : SampleOutcome s t r) (herr : errNum r = 3 ∨ errNum r = 4) :
    items t = items s := by
  obtain hok | ⟨-, hitems⟩ | ⟨hfail, -⟩ := h
  · omega
  · exact hitems
  · omega

/-- The invariant of the block includes that of the five items. -/
theorem itemsInv_of_blockInv (h : BlockInv s) : ItemsInv s :=
  ⟨h.triple, h.marks, h.temperature, h.humidity⟩

/-- A TSAMP that fails clears the temperature, and in WANT_T no humidity is held (R91, R14). -/
theorem idleWithoutReadings_failT (h : ItemsInv s) (hp : s.phase = .wantT) : IdleWithoutReadings (failT s) := by
  obtain ⟨hhv, hhFx⟩ := h.no_humidity (by simp [hp])
  exact ⟨rfl, hhFx, rfl, hhv, rfl⟩

/-- An HSAMP that fails clears both readings (R92). -/
theorem idleWithoutReadings_failH (s : State) : IdleWithoutReadings (failH s) :=
  ⟨rfl, rfl, rfl, rfl, rfl⟩

theorem sampleOutcome_tsamp (hs : ItemsInv s) (h : exec (.tsamp cnt b0 b1 b2) s = .next t) (hr : t.rsp = some r) :
    SampleOutcome s t r := by
  obtain ⟨-, rfl⟩ | ⟨hp, -, rfl⟩ | ⟨hp, -, -, rfl⟩ | ⟨-, -, -, rfl⟩ := execTsamp_cases h
  · exact .inr (.inl ⟨errNum_of_respond hr, items_respond ..⟩)
  · exact .inr (.inr ⟨.inl (errNum_of_respond hr), idleWithoutReadings_failT (s := s) hs hp⟩)
  · exact .inr (.inr ⟨.inr (errNum_of_respond hr), idleWithoutReadings_failT (s := s) hs hp⟩)
  · exact .inl (errNum_of_respond hr)

theorem sampleOutcome_hsamp (h : exec (.hsamp cnt b0 b1 b2) s = .next t) (hr : t.rsp = some r) :
    SampleOutcome s t r := by
  obtain ⟨-, rfl⟩ | ⟨-, -, -, rfl⟩ | ⟨-, -, -, -, rfl⟩ | ⟨-, -, -, -, -, rfl⟩ | ⟨v, -, -, -, -, -, rfl⟩ :=
    execHsamp_cases h
  · exact .inr (.inl ⟨errNum_of_respond hr, items_respond ..⟩)
  · exact .inr (.inr ⟨.inl (errNum_of_respond hr), idleWithoutReadings_failH s⟩)
  · exact .inr (.inr ⟨.inr (errNum_of_respond hr), idleWithoutReadings_failH s⟩)
  · exact .inr (.inl ⟨errNum_of_respond hr, items_respond ..⟩)
  · exact .inl (errNum_of_respond hr)

/-- A command that answers SEQ or ILL leaves the five items (R130). -/
theorem items_of_exec_refused (hs : ItemsInv s) (h : exec i s = .next t) (hr : t.rsp = some r)
    (herr : errNum r = 3 ∨ errNum r = 4) : items t = items s := by
  cases i with
  | crcchk b0 b1 b2 => exact items_of_crcchk h
  | mbegin =>
    obtain rfl := execMbegin_cases h
    have hok : errNum r = 0 := errNum_of_respond hr
    omega
  | tsamp cnt b0 b1 b2 => exact (sampleOutcome_tsamp hs h hr).items_eq herr
  | hsamp cnt b0 b1 b2 => exact (sampleOutcome_hsamp h hr).items_eq herr
  | rdreg reg => exact items_of_rdreg h

/-- A command word that answers SEQ or ILL leaves the five items, an illegal word among them (R130). -/
theorem items_of_execWord_refused (hs : ItemsInv s) (h : execWord w s = .next t) (hr : t.rsp = some r)
    (herr : errNum r = 3 ∨ errNum r = 4) : items t = items s := by
  obtain ⟨i, -, hexec⟩ | ⟨-, hill⟩ := execWord_cases w s
  · exact items_of_exec_refused hs (hexec.symm.trans h) hr herr
  · obtain rfl : respond false .ill 0 s = t := by simpa using hill.symm.trans h
    exact items_respond ..

/-! ### The obligations -/

/-- Settles O40: the outcome of a sample is decided by its phase, then its count, then its checksum. -/
theorem errorPriorityIsIllSeqBusCrc : Obligations.ErrorPriorityIsIllSeqBusCrc := by
  refine ⟨fun s w h hill => ⟨_, _, step_of_illegal h hill, respond_rsp .., errNum_responseWord ..⟩,
    fun cnt b0 b1 b2 s t r => ⟨fun h hr => ⟨fun hp => ?_, fun hp hc => ?_, fun hp hc hk => ?_⟩,
      fun h hr => ⟨fun hp => ?_, fun hp htv hc => ?_, fun hp htv hc hk => ?_⟩⟩⟩
  · exact refusal_of_refusedWith (tsamp_refusedWith_seq hp) h hr
  · exact errNum_of_exec h hr (execTsamp_of_short hp hc)
  · exact errNum_of_exec h hr (execTsamp_of_mismatch hp hc hk)
  · exact refusal_of_refusedWith (hsamp_refusedWith_seq hp) h hr
  · exact errNum_of_exec h hr (execHsamp_of_short hp htv hc)
  · exact errNum_of_exec h hr (execHsamp_of_mismatch hp htv hc hk)

/-- Settles O42: by the invariant no humidity is held in WANT_T, where a TSAMP clears the temperature alone; a refusal
answers on the state as it is. -/
theorem failedSamplesLeaveNoReadings : Obligations.FailedSamplesLeaveNoReadings := by
  intro s w t r hinv hw ht hr
  have hs := itemsInv_of_blockInv hinv
  refine ⟨fun cnt b0 b1 b2 hdecode herr => ?_, items_of_execWord_refused hs (step_of_executes hw ▸ ht) hr⟩
  obtain hi | hi := hdecode
  · exact (sampleOutcome_tsamp hs (exec_of_step hw hi ht) hr).idleWithoutReadings herr
  · exact (sampleOutcome_hsamp (exec_of_step hw hi ht) hr).idleWithoutReadings herr

/-- Settles O39: a sample outside its phase answers SEQ on the state as it is. -/
theorem samplesOutsideTheirPhaseAreRefused : Obligations.SamplesOutsideTheirPhaseAreRefused :=
  fun _ _ _ _ _ => ⟨fun hp => seqRefusal_of_exec (execTsamp_of_wrong_phase hp),
    fun hp => seqRefusal_of_exec (execHsamp_of_wrong_phase hp)⟩

end Sys2Proof.Proofs
end

section
/-! Reset and the end of a command (spec/70_reset_and_hazards.md rules R140 and R148): what a step with reset asserted
leaves, and that every step answers. -/

namespace Sys2Proof.Proofs
open Sys2Proof Sys2Proof.Machine Sys2Proof.Claims

variable {s : State}

/-! ### The kinds of step -/

/-- Reset is asserted exactly when it is the host's next action. -/
theorem resetAsserted_iff : resetAsserted s = true ↔ ∃ rest, s.host = .reset :: rest := by
  unfold resetAsserted
  split <;> simp_all

/-- With no reset asserted and no command in the block the ports move (R144). -/
theorem step_of_no_command (hreset : resetAsserted s = false) (hcmd : s.cmd = none) :
    step s = .next (portStep s) := by
  simp [step, hreset, hcmd]

/-- The block never stops: a reset, a command in the block and a handshake each have a next state (R148). -/
theorem exists_step_eq_next (s : State) : ∃ t, step s = .next t := by
  cases hreset : resetAsserted s with
  | true => exact ⟨_, step_of_reset hreset⟩
  | false =>
    cases hcmd : s.cmd with
    | none => exact ⟨_, step_of_no_command hreset hcmd⟩
    | some w => exact ⟨_, (step_of_executes ⟨hreset, hcmd⟩).trans (execWord_eq_after w s)⟩

/-! ### The obligations -/

/-- Settles O2: reset comes before the command in the block, and the reset state holds no command and no response. -/
theorem resetDiscardsTheCommandInFlight : Obligations.ResetDiscardsTheCommandInFlight := by
  intro s rest hhost
  have hstep : step s = .next (resetBlock s).hostDone := step_of_reset (resetAsserted_iff.mpr ⟨rest, hhost⟩)
  have hrest : (resetBlock s).hostDone.host = rest := by simp [hhost]
  exact ⟨_, hstep, rfl, rfl, rfl, rfl, rfl, rfl, hrest, rfl, fun _ => rfl⟩

/-- Settles O7: each kind of step has a next state, and executing a word ends in one `respond`. -/
theorem everyStepAnswers : Obligations.EveryStepAnswers := by
  refine ⟨exists_step_eq_next, fun s w h => ?_⟩
  obtain ⟨ok, err, d, u, hstep, -⟩ := step_responds h
  exact ⟨_, _, hstep, respond_cmd .., respond_rsp ..⟩

end Sys2Proof.Proofs
end

section
/-! Encoding and decoding are inverse to each other (spec/30_encoding.md rules R46 to R49): the word of a well-formed
command stands in that command's row, and its fields read back the operands. -/

namespace Sys2Proof.Proofs
open Sys2Proof Sys2Proof.Machine Sys2Proof.Claims

variable {w : CmdWord} {cnt : ByteCount} {b0 b1 b2 : Byte} {op : Nat}

/-- The fields below OP read back what a word was made from; a word of format C is one with CNT = 0 (R42, R44). -/
theorem fields_of_toNat (h : w.toNat =
    op * 0x10000000 + cnt.toNat * 0x4000000 + b0.toNat * 0x10000 + b1.toNat * 0x100 + b2.toNat) :
    fieldCnt w = cnt ∧ fieldB0 w = b0 ∧ fieldB1 w = b1 ∧ fieldB2 w = b2 := by
  refine ⟨?_, ?_, ?_, ?_⟩ <;> apply BitVec.eq_of_toNat_eq
  · rw [fieldCnt, toNat_field]
    omega
  · rw [fieldB0, toNat_field]
    omega
  · rw [fieldB1, toNat_field]
    omega
  · rw [fieldB2, toNat_field]
    omega

theorem decode_encode_crcchk (b0 b1 b2 : Byte) : decode (encode (.crcchk b0 b1 b2)) = .ok (.crcchk b0 b1 b2) := by
  have hnum := encode_crcchk_toNat b0 b1 b2
  obtain ⟨-, h0, h1, h2⟩ := fields_of_toNat (op := 1) (cnt := 0) hnum
  rw [decode_of_crcchkRow (by omega) (by omega), h0, h1, h2]

theorem decode_encode_tsamp (cnt : ByteCount) (b0 b1 b2 : Byte) :
    decode (encode (.tsamp cnt b0 b1 b2)) = .ok (.tsamp cnt b0 b1 b2) := by
  have hnum := encode_tsamp_toNat cnt b0 b1 b2
  obtain ⟨hcnt, h0, h1, h2⟩ := fields_of_toNat (op := 3) hnum
  rw [decode_of_tsampRow (by omega) (by omega), hcnt, h0, h1, h2]

theorem decode_encode_hsamp (cnt : ByteCount) (b0 b1 b2 : Byte) :
    decode (encode (.hsamp cnt b0 b1 b2)) = .ok (.hsamp cnt b0 b1 b2) := by
  have hnum := encode_hsamp_toNat cnt b0 b1 b2
  obtain ⟨hcnt, h0, h1, h2⟩ := fields_of_toNat (op := 4) hnum
  rw [decode_of_hsampRow (by omega) (by omega), hcnt, h0, h1, h2]

/-- RDREG's word is a command only where the register may be named (R47). -/
theorem decode_encode_rdreg {reg : RegNum} (hreg : regReadable reg = true) :
    decode (encode (.rdreg reg)) = .ok (.rdreg reg) := by
  have hnum := encode_rdreg_toNat reg
  have hfield : fieldReg (encode (.rdreg reg)) = reg := by
    apply BitVec.eq_of_toNat_eq
    rw [fieldReg, toNat_field]
    omega
  rw [decode_of_rdregRow (by omega) (by omega) (hfield.symm ▸ (regReadable_iff reg).mp hreg), hfield]

/-! ### The obligations -/

/-- Settles O11, by the row and the fields of each command's word. -/
theorem decodeOfEncode : Obligations.DecodeOfEncode := by
  intro i hwf
  cases i with
  | crcchk b0 b1 b2 => exact decode_encode_crcchk b0 b1 b2
  | mbegin => decide
  | tsamp cnt b0 b1 b2 => exact decode_encode_tsamp cnt b0 b1 b2
  | hsamp cnt b0 b1 b2 => exact decode_encode_hsamp cnt b0 b1 b2
  | rdreg reg => exact decode_encode_rdreg hwf

/-- Settles O12: decoding gives well-formed commands only, and every branch of it fixes the whole word. -/
theorem encodeOfDecode : Obligations.EncodeOfDecode :=
  fun _ _ h => ⟨decode_wf h, encode_of_decode h⟩

/-- Settles O15: eight words, decoded one by one. -/
theorem listedWordsDecodeAsListed : Obligations.ListedWordsDecodeAsListed := by
  refine ⟨?_, ?_, ?_, ?_, ?_, ?_, ?_, ?_⟩ <;> decide

end Sys2Proof.Proofs
end

section
/-! The invariant of the whole block (spec/10_state.md, spec/70_reset_and_hazards.md rule R144): what stands at the
ports beside the five items, kept by every step, and what it says of the temperatures held and of the status bytes
answered. -/

namespace Sys2Proof.Proofs
open Sys2Proof Sys2Proof.Machine Sys2Proof.Claims

variable {s t u : State} {i : Instr} {r : RspWord} {ok : Bool} {err : ErrCode} {d : DataWord}

/-! ### The ports -/

/-- The part of the block's invariant that speaks of the ports (R50, R144). -/
def PortsInv (s : State) : Prop := OneCommand s ∧ ResponseRight s

theorem blockInv_of_itemsInv (h : ItemsInv s) (hports : PortsInv s) : BlockInv s :=
  ⟨h.triple, h.marks, h.temperature, h.humidity, hports.1, hports.2⟩

theorem portsInv_of_no_response (h : s.rsp = none) : PortsInv s :=
  ⟨.inr h, by simp [ResponseRight, h]⟩

/-- A response just produced shows the state it is answered from, OK exactly with NONE (R50, R51). -/
theorem portsInv_respond (hok : ok = true ↔ err = .noError) (d : DataWord) (u : State) :
    PortsInv (respond ok err d u) := by
  refine ⟨.inl (respond_cmd ..), fun r hr => ?_⟩
  obtain rfl : responseWord ok err d u = r := by simpa using hr
  refine ⟨?_, ?_, ?_⟩
  · rw [rspState_responseWord]
    rfl
  · rw [rspOk_responseWord, rspErr_responseWord, hok, errCode_eq_zero]
  · rw [rspErr_responseWord]
    exact errCode_le err

/-- A handshake leaves no response at the port, unless it does nothing (R144). -/
theorem portStep_rsp_eq_none_or_eq (s : State) : (portStep s).rsp = none ∨ portStep s = s := by
  unfold portStep
  split
  · exact .inl rfl
  · next hrsp => exact .inl hrsp
  · exact .inl rfl
  · exact .inl rfl
  · exact .inr rfl

theorem portsInv_portStep (h : PortsInv s) : PortsInv (portStep s) := by
  obtain hnone | hsame := portStep_rsp_eq_none_or_eq s
  · exact portsInv_of_no_response hnone
  · rwa [hsame]

theorem portsInv_step (h : PortsInv s) (hstep : step s = .next t) : PortsInv t := by
  obtain ⟨-, rfl⟩ | ⟨hreset, w, hcmd, -⟩ | ⟨-, -, rfl⟩ := step_cases hstep
  · exact portsInv_of_no_response rfl
  · obtain ⟨ok, err, d, u, hresponds, hok⟩ := step_responds ⟨hreset, hcmd⟩
    obtain rfl : respond ok err d u = t := by simpa using hresponds.symm.trans hstep
    exact portsInv_respond hok d u
  · exact portsInv_portStep h

/-! ### Status bytes -/

/-- The state bits under the four triples of R14. -/
theorem stLow_of_triple (h : cycleTriple s ∈ cycleTriples) :
    stLow s = 0 ∨ stLow s = 3 ∨ stLow s = 4 ∨ stLow s = 9 := by
  have hmem := statusWord_mem_of_triple h
  rw [← statusWord_toNat_eq_stLow]
  simp only [List.mem_cons, List.not_mem_nil, or_false] at hmem
  obtain h0 | h3 | h4 | h9 := hmem
  · exact .inl (by rw [h0]; rfl)
  · exact .inr (.inl (by rw [h3]; rfl))
  · exact .inr (.inr (.inl (by rw [h4]; rfl)))
  · exact .inr (.inr (.inr (by rw [h9]; rfl)))

/-- ST of a response as a number (R50). -/
theorem statusNum_responseWord (ok : Bool) (err : ErrCode) (d : DataWord) (s : State) :
    (responseWord ok err d s).toNat / 2 ^ 32 = ok.toNat * 128 + err.code.toNat * 16 + stLow s := by
  rw [responseWord_toNat_eq]
  omega

/-- Only a sample answers BUS, and it leaves IDLE without readings (R121, R130). -/
theorem idleWithoutReadings_of_bus (hs : ItemsInv s) (h : exec i s = .next t) (hr : t.rsp = some r)
    (hbus : errNum r = 1) : IdleWithoutReadings t := by
  cases i with
  | crcchk b0 b1 b2 =>
    obtain ⟨-, rfl⟩ | ⟨-, rfl⟩ := execCrcchk_cases h
    · exact absurd ((errNum_of_respond hr).symm.trans hbus) (by decide)
    · exact absurd ((errNum_of_respond hr).symm.trans hbus) (by decide)
  | mbegin =>
    obtain rfl := execMbegin_cases h
    exact absurd ((errNum_of_respond hr).symm.trans hbus) (by decide)
  | tsamp cnt b0 b1 b2 => exact (sampleOutcome_tsamp hs h hr).idleWithoutReadings (.inl hbus)
  | hsamp cnt b0 b1 b2 => exact (sampleOutcome_hsamp h hr).idleWithoutReadings (.inl hbus)
  | rdreg reg =>
    obtain ⟨q, -, rfl⟩ | ⟨-, rfl⟩ := execRdreg_cases h
    · exact absurd ((errNum_of_respond hr).symm.trans hbus) (by decide)
    · exact absurd ((errNum_of_respond hr).symm.trans hbus) (by decide)

/-- The state bits beside BUS are zero (R50, R121). -/
theorem stLow_of_bus {w : CmdWord} (hs : ItemsInv s) (h : execWord w s = .next (respond ok .bus d u)) :
    stLow u = 0 := by
  obtain ⟨i, -, hexec⟩ | ⟨-, hill⟩ := execWord_cases w s
  · obtain ⟨-, -, htv, hhv, hp⟩ :=
      idleWithoutReadings_of_bus hs (hexec.symm.trans h) (respond_rsp ..) (errNum_responseWord ..)
    exact stLow_of_idle_without_readings hp htv hhv
  · have hsame : respond false .ill 0 s = respond ok .bus d u := by simpa using hill.symm.trans h
    have herr := congrArg (fun t => t.rsp.map errNum) hsame
    simp [errNum_responseWord, ErrCode.code] at herr

/-! ### The obligations -/

/-- Settles O49: the five items by their own invariant, and ports that hold nothing. -/
theorem invariantHoldsAtReset : Obligations.InvariantHoldsAtReset :=
  blockInv_of_itemsInv (itemsInv_of_reachable .reset) (portsInv_of_no_response rfl)

/-- Settles O50: a step keeps the five items' part of the invariant and the ports' part. -/
theorem everyStepKeepsTheInvariant : Obligations.EveryStepKeepsTheInvariant := fun _ _ hs h =>
  blockInv_of_itemsInv (itemsInv_step (itemsInv_of_blockInv hs) h) (portsInv_step ⟨hs.oneCommand, hs.response⟩ h)

/-- Settles O10: the state bits after the command are those of one of R14's triples, OK goes with NONE alone, and BUS
with the state bits 0 alone. -/
theorem responseStatusIsOneOfTheListed : Obligations.ResponseStatusIsOneOfTheListed := by
  intro s w t r hinv hw hstep hr
  have hs := itemsInv_of_blockInv hinv
  obtain ⟨ok, err, d, u, hresponds, hok⟩ := step_responds hw
  obtain rfl : respond ok err d u = t := by simpa using hresponds.symm.trans hstep
  obtain rfl : responseWord ok err d u = r := by simpa using hr
  have hst : stLow u = 0 ∨ stLow u = 3 ∨ stLow u = 4 ∨ stLow u = 9 :=
    stLow_of_triple (s := u) (itemsInv_step hs hstep).triple
  rw [statusNum_responseWord]
  cases err with
  | bus =>
    rw [stLow_of_bus hs (step_of_executes hw ▸ hstep)]
    cases ok <;> simp_all [ErrCode.code]
  | noError =>
    obtain rfl : ok = true := hok.mpr rfl
    obtain h | h | h | h := hst <;> simp [h, ErrCode.code]
  | crc | seq | ill =>
    obtain rfl : ok = false := by simpa using hok
    obtain h | h | h | h := hst <;> simp [h, ErrCode.code]

/-- Settles O53: a temperature held reads back as the counts of a sample, and 16 (4,393 q - 19,189,760) is never 0. -/
theorem reachableTemperaturesAreMultiplesOfSixteen : Obligations.ReachableTemperaturesAreMultiplesOfSixteen := by
  intro s hs t ht
  obtain ⟨b0, b1, rfl⟩ := (itemsInv_of_reachable hs).temperature t ht
  have hnum : (sext32 (tconv (raw16 b0 b1))).toInt = tconv (raw16 b0 b1) := by
    rw [sext32_tconv, temperature_toInt]
  have hcode := tconv_raw16_eq_code14 b0 b1
  obtain ⟨hlo, hhi⟩ := tconv_raw16_bounds b0 b1
  refine ⟨fun hzero => ?_, by omega, by omega, by omega⟩
  have hcounts : tconv (raw16 b0 b1) = 0 := hnum.symm.trans (congrArg BitVec.toInt hzero)
  omega

end Sys2Proof.Proofs
end

section
/-! CRC8 as an unrolled XOR network (spec/40_crc8.md rule R63): a function linear over XOR is the XOR of what the set
bits of its argument contribute, and the checksum of a data word is such a function. -/

namespace Sys2Proof.Proofs
open Sys2Proof Sys2Proof.Machine

/-- The checksum of a data word, its first byte above its second (R60). -/
def crcOfWord (x : BitVec 16) : Byte := crc8 (x.extractLsb' 8 8) (x.extractLsb' 0 8)

theorem crcOfWord_append (b0 b1 : Byte) : crcOfWord (b0 ++ b1) = crc8 b0 b1 := by
  rw [crcOfWord, BitVec.extractLsb'_append_eq_left, BitVec.extractLsb'_append_eq_right]

/-- The checksum of a data word is linear over XOR (R64). -/
theorem crcOfWord_xor (x y : BitVec 16) : crcOfWord (x ^^^ y) = crcOfWord x ^^^ crcOfWord y := by
  simp only [crcOfWord, BitVec.extractLsb'_xor, crc8_xor]

/-- The contributions are the checksums of the single bits, bit 0 first (95_test_vectors.md section 2.2). -/
theorem crcContributions_eq :
    crcContributions = (List.range' 0 16).map fun i => crcOfWord (BitVec.twoPow 16 i) := by
  decide +kernel

/-- Shifting down and up by `i` clears the bits below bit `i`. -/
theorem getLsbD_bitsFrom (x : BitVec 16) (i k : Nat) :
    (x >>> i <<< i).getLsbD k = (decide (i ≤ k) && x.getLsbD k) := by
  rw [BitVec.getLsbD_shiftLeft, BitVec.getLsbD_ushiftRight]
  by_cases hik : i ≤ k
  · rw [Nat.add_sub_cancel' hik]
    by_cases hk : k < 16
    · simp [hik, hk]
    · simp [hk, BitVec.getLsbD_of_ge x k (by omega)]
  · simp [hik]

/-- The bits of a word from bit `i` upwards are bit `i`, if set, and the bits above it. -/
theorem bitsFrom_eq_xor (x : BitVec 16) (i : Nat) :
    x >>> i <<< i = (if x.getLsbD i then BitVec.twoPow 16 i else 0) ^^^ x >>> (i + 1) <<< (i + 1) := by
  apply BitVec.eq_of_getLsbD_eq
  intro k hk
  rw [BitVec.getLsbD_xor, getLsbD_bitsFrom, getLsbD_bitsFrom]
  obtain hlow | rfl | hhigh := Nat.lt_trichotomy k i
  · split <;> simp [hlow.not_ge, hlow.ne', hlow.not_gt]
  · split <;> simp_all
  · split <;> simp [hhigh, hhigh.le, hhigh.ne]

/-- A function linear over XOR is the XOR of the contributions of the set bits. -/
theorem crcXorFrom_eq_of_linear {f : BitVec 16 → Byte} (hf : ∀ x y, f (x ^^^ y) = f x ^^^ f y) (x : BitVec 16)
    (n i : Nat) (hbits : i + n = 16) :
    crcXorFrom x i ((List.range' i n).map fun j => f (BitVec.twoPow 16 j)) = f (x >>> i <<< i) := by
  have hzero : f 0 = 0 := by simpa using hf 0 0
  induction n generalizing i with
  | zero =>
    obtain rfl : i = 16 := hbits
    have hnone : x >>> 16 <<< 16 = 0 := by simp
    rw [hnone, hzero]
    rfl
  | succ n ih =>
    rw [List.range'_succ, List.map_cons, crcXorFrom, ih (i + 1) (by omega), bitsFrom_eq_xor x i, hf]
    split
    · rfl
    · rw [hzero]

/-- Settles O18: the checksum is linear over XOR, so that it is the XOR of the checksums of the single bits. -/
theorem xorNetworkEqualsBitSerialCrc : Obligations.XorNetworkEqualsBitSerialCrc := by
  intro b0 b1
  rw [crc8Network, crcContributions_eq, crcXorFrom_eq_of_linear crcOfWord_xor _ 16 0 rfl, ← crcOfWord_append]
  simp

end Sys2Proof.Proofs
end

section
/-! The document's formulas over the named parameters of spec/00_scope.md section 4, with the configured values put
in (spec/41_formula_engine.md rules R72 to R78). -/

namespace Sys2Proof.Proofs
open Sys2Proof Sys2Proof.Machine Sys2Proof.Claims

theorem celsius_eq (t : Int) : celsius t = (t : ℚ) / 6553600 := by simp [celsius]

theorem percentRH_eq (h : Int) : percentRH h = (h : ℚ) / 8192000 := by simp [percentRH]

theorem docTemperature_raw16 (b0 b1 : Byte) :
    docTemperature (raw16 b0 b1) = -46.85 + 175.72 * (rawNum b0 b1 : ℚ) / 65536 := by
  simp only [docTemperature, config, raw16_toNat_eq_rawNum]
  push_cast
  ring

theorem docHumidity_raw16 (b0 b1 : Byte) :
    docHumidity (raw16 b0 b1) = -6 + 125 * (rawNum b0 b1 : ℚ) / 65536 := by
  simp only [docHumidity, config, raw16_toNat_eq_rawNum]
  push_cast
  ring

theorem docCompensation_eq (temperature : ℚ) : docCompensation temperature = (25 - temperature) * (-0.15) := by
  simp only [docCompensation, config]
  push_cast
  ring

/-- The document's clamp, its two ends in either order: 0 is below 100 (R77). -/
theorem docClamp_eq (h : ℚ) : docClamp h = max 0 (min 100 h) := by
  have hmin : ((config.hMin : ℚ) / 100) = 0 := by simp [config]
  have hmax : ((config.hMax : ℚ) / 100) = 100 := by norm_num [config]
  rw [docClamp, hmin, hmax, max_min_distrib_left, max_eq_right (by norm_num : (0 : ℚ) ≤ 100), min_comm, max_comm]

/-- Settles O29: over the configured values each formula is the one with the literals as written, which the counts
divided by their scales are. -/
theorem countsFollowTheConfiguredLiterals : Obligations.CountsFollowTheConfiguredLiterals := by
  intro t0 t1 h0 h1
  obtain ⟨-, -, -, htemp, hhum⟩ := humidityIsTheDocumentFormula t0 t1 h0 h1
  rw [celsius_eq, percentRH_eq, docClamp_eq, docHumidity_raw16, docCompensation_eq, docTemperature_raw16]
  exact ⟨htemp, hhum⟩

end Sys2Proof.Proofs
end

section
/-! The samples in every state (spec/42_measurement_cycle.md rules R91 and R92): TSAMP's outcomes where a humidity may
be held, the refusal of HSAMP without a temperature, the bytes of a short read, and how a cycle ends. -/

namespace Sys2Proof.Proofs
open Sys2Proof Sys2Proof.Machine Sys2Proof.Claims

variable {s t : State} {i : Instr} {w : CmdWord} {r : RspWord} {cnt : ByteCount} {b0 b1 b2 c0 c1 c2 : Byte}

/-! ### TSAMP in every state -/

/-- After a TSAMP that fails only HV is left in the state bits (notes/assumptions/8.md). -/
theorem stLow_failT_eq (s : State) : stLow (failT s) = 2 * s.hv.toNat := by
  simp [stLow, failT, phaseNum]

/-- TSAMP of a short read, whatever HV is (R91). -/
theorem exec_tsamp_of_short_showing_hv (hp : s.phase = .wantT) (hc : cnt ≠ 3) : exec (.tsamp cnt b0 b1 b2) s =
    .next { s with phase := .idle, tv := false, tFx := none, cmd := none,
                   rsp := some (rsp40 (0x10 + 2 * s.hv.toNat) 0) } := by
  rw [exec, execTsamp_of_short hp hc, respond_eq, stLow_failT_eq]
  rfl

/-- TSAMP of a complete sample with a wrong checksum, whatever HV is (R91). -/
theorem exec_tsamp_of_mismatch_showing_hv (hp : s.phase = .wantT) (hc : cnt = 3) (hk : crc8 b0 b1 ≠ b2) :
    exec (.tsamp cnt b0 b1 b2) s =
      .next { s with phase := .idle, tv := false, tFx := none, cmd := none,
                     rsp := some (rsp40 (0x20 + 2 * s.hv.toNat) 0) } := by
  rw [exec, execTsamp_of_mismatch hp hc hk, respond_eq, stLow_failT_eq]
  rfl

/-- TSAMP of a good sample, whatever HV is (R91). -/
theorem exec_tsamp_of_good_showing_hv (hp : s.phase = .wantT) (hc : cnt = 3) (hk : crc8 b0 b1 = b2) :
    exec (.tsamp cnt b0 b1 b2) s =
      .next { s with phase := .wantH, tv := true, tFx := some (temperature b0 b1), cmd := none,
                     rsp := some (rsp40 (0x89 + 2 * s.hv.toNat) (temperature b0 b1)) } := by
  rw [exec, execTsamp_of_good hp hc hk, sext32_tconv, respond_eq_of_st (st := 0x89 + 2 * s.hv.toNat)]
  · rfl
  · simp [stLow, phaseNum, ErrCode.code]
    omega

/-! ### Short reads -/

/-- In no state does a short read's TSAMP read the bytes: it is refused or answers BUS (R44, R91). -/
theorem execTsamp_of_short_congr (hc : cnt ≠ 3) : execTsamp cnt b0 b1 b2 s = execTsamp cnt c0 c1 c2 s := by
  by_cases hp : s.phase = .wantT
  · rw [execTsamp_of_short hp hc, execTsamp_of_short hp hc]
  · rw [execTsamp_of_wrong_phase hp, execTsamp_of_wrong_phase hp]

/-- In no state does a short read's HSAMP read the bytes: it is refused or answers BUS (R44, R92). -/
theorem execHsamp_of_short_congr (hc : cnt ≠ 3) : execHsamp cnt b0 b1 b2 s = execHsamp cnt c0 c1 c2 s := by
  by_cases hp : s.phase ≠ .wantH ∨ s.tv = false
  · rw [execHsamp_of_wrong_phase hp, execHsamp_of_wrong_phase hp]
  · obtain ⟨hphase, htv⟩ : s.phase = .wantH ∧ s.tv = true := by simpa using hp
    rw [execHsamp_of_short hphase htv hc, execHsamp_of_short hphase htv hc]

/-! ### The end of a cycle -/

/-- The OK a host reads from the port is the one answered with (R50). -/
theorem okNum_of_respond {ok : Bool} {err : ErrCode} {d : DataWord} (hr : (respond ok err d s).rsp = some r) :
    okNum r = ok.toNat := by
  obtain rfl : responseWord ok err d s = r := by simpa using hr
  exact okNum_responseWord ok err d s

theorem statusWord_of_idleWithoutReadings (h : IdleWithoutReadings t) : statusWord t = 0 := by
  obtain ⟨-, -, htv, hhv, hp⟩ := h
  rw [statusWord_eq_ofNat_stLow, stLow_of_idle_without_readings hp htv hhv]
  rfl

/-- Of the four triples the one with a humidity is IDLE with both readings (R14). -/
theorem statusWord_of_humidity (h : ItemsInv t) {v : DataWord} (hv : t.hFx = some v) : statusWord t = 3 := by
  obtain ⟨-, hmark⟩ := h.marks
  have hhv : t.hv = true := by simpa [hv] using hmark
  have htriple : t.phase = .idle ∧ t.tv = true := by simpa [cycleTriple, cycleTriples, hhv] using h.triple
  simp [statusWord_eq_ofNat_stLow, stLow, phaseNum, htriple, hhv]

/-- A TSAMP that fails in its phase ends the cycle without readings (R91). -/
theorem idleWithoutReadings_of_tsamp_failure (hs : ItemsInv s) (h : exec (.tsamp cnt b0 b1 b2) s = .next t)
    (hr : t.rsp = some r) (hok : okNum r = 0) (hp : s.phase = .wantT) : IdleWithoutReadings t := by
  obtain ⟨hwrong, -⟩ | ⟨-, -, rfl⟩ | ⟨-, -, -, rfl⟩ | ⟨-, -, -, rfl⟩ := execTsamp_cases h
  · exact absurd hp hwrong
  · exact idleWithoutReadings_failT (s := s) hs hp
  · exact idleWithoutReadings_failT (s := s) hs hp
  · exact absurd ((okNum_of_respond hr).symm.trans hok) (by decide)

/-- An HSAMP that fails in its phase ends the cycle without readings: the temperature it wants is there (R92). -/
theorem idleWithoutReadings_of_hsamp_failure (hs : ItemsInv s) (h : exec (.hsamp cnt b0 b1 b2) s = .next t)
    (hr : t.rsp = some r) (hok : okNum r = 0) (hp : s.phase = .wantH) : IdleWithoutReadings t := by
  obtain ⟨htv, -⟩ := flags_of_wantH hs.triple hp
  obtain ⟨hmark, -⟩ := hs.marks
  obtain ⟨hwrong, -⟩ | ⟨-, -, -, rfl⟩ | ⟨-, -, -, -, rfl⟩ | ⟨-, -, -, -, hnone, -⟩ | ⟨v, -, -, -, -, -, rfl⟩ :=
    execHsamp_cases h
  · simp [hp, htv] at hwrong
  · exact idleWithoutReadings_failH s
  · exact idleWithoutReadings_failH s
  · simp [htv, hnone] at hmark
  · exact absurd ((okNum_of_respond hr).symm.trans hok) (by decide)

/-- In IDLE every command but MBEGIN leaves the five items: a sample is refused (R93). -/
theorem items_of_exec_idle (hp : s.phase = .idle) (hm : i ≠ .mbegin) (h : exec i s = .next t) :
    items t = items s := by
  cases i with
  | crcchk b0 b1 b2 => exact items_of_crcchk h
  | mbegin => exact absurd rfl hm
  | tsamp cnt b0 b1 b2 =>
    have hrefused : exec (.tsamp cnt b0 b1 b2) s = _ := execTsamp_of_wrong_phase (by simp [hp])
    obtain rfl : respond false .seq 0 s = t := by simpa using hrefused.symm.trans h
    exact items_respond ..
  | hsamp cnt b0 b1 b2 =>
    have hrefused : exec (.hsamp cnt b0 b1 b2) s = _ := execHsamp_of_wrong_phase (.inl (by simp [hp]))
    obtain rfl : respond false .seq 0 s = t := by simpa using hrefused.symm.trans h
    exact items_respond ..
  | rdreg reg => exact items_of_rdreg h

/-- In IDLE a step leaves the five items unless it is an MBEGIN or a reset (42_measurement_cycle.md section 4). -/
theorem items_of_step_idle (hp : s.phase = .idle) (h : step s = .next t) (hr : resetAsserted s = false)
    (hm : ∀ w, s.cmd = some w → decode w ≠ .ok .mbegin) : items t = items s := by
  obtain ⟨hreset, -⟩ | ⟨-, w, hcmd, hw⟩ | ⟨-, -, rfl⟩ := step_cases h
  · simp [hr] at hreset
  · obtain ⟨i, hi, hexec⟩ | ⟨-, hill⟩ := execWord_cases w s
    · have hne : i ≠ .mbegin := by
        rintro rfl
        exact hm w hcmd hi
      exact items_of_exec_idle hp hne (hexec.symm.trans hw)
    · obtain rfl : respond false .ill 0 s = t := by simpa using hill.symm.trans hw
      exact items_respond ..
  · exact items_portStep hr

/-! ### The obligations -/

/-- Settles O32: the outcomes of TSAMP, none of which reads or writes HV but to show it. -/
theorem tsampFollowsItsRule : Obligations.TsampFollowsItsRule := fun cnt b0 b1 b2 _ =>
  ⟨encode_tsamp_eq_or cnt b0 b1 b2, exec_tsamp_of_wrong_phase, exec_tsamp_of_short_showing_hv,
    exec_tsamp_of_mismatch_showing_hv, exec_tsamp_of_good_showing_hv⟩

/-- Settles O34: the good sample meets no temperature to compensate with. -/
theorem hsampWithoutATemperatureIsRefused : Obligations.HsampWithoutATemperatureIsRefused := by
  intro b0 b1 s hp htv hnone
  rw [exec, execHsamp_of_no_temperature hp htv rfl rfl hnone, respond_eq]
  rfl

/-- Settles O41: a short read is refused by its phase or answers BUS, and neither looks at the bytes. -/
theorem bytesOfAShortReadAreIgnored : Obligations.BytesOfAShortReadAreIgnored := by
  intro cnt b0 b1 b2 c0 c1 c2 s hlt
  have hc : cnt ≠ 3 := by
    rintro rfl
    exact absurd hlt (by decide)
  exact ⟨execTsamp_of_short_congr hc, execHsamp_of_short_congr hc⟩

/-- Settles O36: an HSAMP that answers OK leaves a humidity, which the invariant puts beside a temperature in IDLE; a
failure clears both; and in IDLE a sample is refused. -/
theorem cycleEndsWithBothReadingsOrNone : Obligations.CycleEndsWithBothReadingsOrNone := by
  refine ⟨fun cnt b0 b1 b2 s t r hinv hr => ?_, fun s t hp h => items_of_step_idle hp h⟩
  have hs := itemsInv_of_blockInv hinv
  refine ⟨fun h => ⟨fun hok => ?_, fun hok hp => ?_⟩, fun h hok hp => ?_⟩
  · obtain ⟨v, -, -, hhumidity⟩ := hsamp_of_ok h hr hok
    exact statusWord_of_humidity (itemsInv_exec hs h) hhumidity
  · have hidle := idleWithoutReadings_of_hsamp_failure hs h hr hok hp
    have hstatus := statusWord_of_idleWithoutReadings hidle
    obtain ⟨ht, hh, -⟩ := hidle
    exact ⟨hstatus, ht, hh⟩
  · have hidle := idleWithoutReadings_of_tsamp_failure hs h hr hok hp
    have hstatus := statusWord_of_idleWithoutReadings hidle
    obtain ⟨ht, hh, -⟩ := hidle
    exact ⟨hstatus, ht, hh⟩

end Sys2Proof.Proofs
end

section
/-! Frames (spec/10_state.md sections 1 and 4): what each command may do to the two flags, what it leaves unchanged,
and which steps set or clear a flag. -/

namespace Sys2Proof.Proofs
open Sys2Proof Sys2Proof.Machine Sys2Proof.Claims

variable {s t : State} {i : Instr} {r : RspWord} {cnt : ByteCount} {b0 b1 b2 : Byte}

/-! ### What a command does to the flags -/

/-- The ways command `i`, answering `r`, takes the flags of `s` to those of `t` (10_state.md section 4). -/
inductive FlagMove (s t : State) (r : RspWord) : Instr → Prop where
  /-- A read or a refusal. -/
  | keep (i : Instr) : t.tv = s.tv → t.hv = s.hv → FlagMove s t r i
  /-- MBEGIN clears both (R90). -/
  | mbegin : t.tv = false → t.hv = false → FlagMove s t r .mbegin
  /-- A good TSAMP sets TV alone (R91). -/
  | tsampGood {b0 b1 b2 : Byte} : crc8 b0 b1 = b2 → s.phase = .wantT → t.tv = true → t.hv = s.hv →
      FlagMove s t r (.tsamp 3 b0 b1 b2)
  /-- A TSAMP that fails clears TV alone (R91). -/
  | tsampFailed {cnt : ByteCount} {b0 b1 b2 : Byte} : errNum r = 1 ∨ errNum r = 2 → t.tv = false → t.hv = s.hv →
      FlagMove s t r (.tsamp cnt b0 b1 b2)
  /-- A good HSAMP sets HV alone (R92). -/
  | hsampGood {b0 b1 b2 : Byte} : crc8 b0 b1 = b2 → s.phase = .wantH → t.tv = s.tv → t.hv = true →
      FlagMove s t r (.hsamp 3 b0 b1 b2)
  /-- An HSAMP that fails clears both (R92). -/
  | hsampFailed {cnt : ByteCount} {b0 b1 b2 : Byte} : errNum r = 1 ∨ errNum r = 2 → t.tv = false → t.hv = false →
      FlagMove s t r (.hsamp cnt b0 b1 b2)

theorem flags_of_items_eq (h : items t = items s) : t.tv = s.tv ∧ t.hv = s.hv := by
  obtain ⟨-, htv, hhv, -⟩ : t.phase = s.phase ∧ t.tv = s.tv ∧ t.hv = s.hv ∧
      t.tFx = s.tFx ∧ t.hFx = s.hFx := by simpa [items] using h
  exact ⟨htv, hhv⟩

theorem flagMove_of_items_eq (h : items t = items s) : FlagMove s t r i :=
  .keep i (flags_of_items_eq h).1 (flags_of_items_eq h).2

theorem flagMove_of_exec (h : exec i s = .next t) (hr : t.rsp = some r) : FlagMove s t r i := by
  cases i with
  | crcchk b0 b1 b2 => exact flagMove_of_items_eq (items_of_crcchk h)
  | mbegin =>
    obtain rfl := execMbegin_cases h
    exact .mbegin rfl rfl
  | tsamp cnt b0 b1 b2 =>
    obtain ⟨-, rfl⟩ | ⟨-, -, rfl⟩ | ⟨-, -, -, rfl⟩ | ⟨hp, rfl, hk, rfl⟩ := execTsamp_cases h
    · exact flagMove_of_items_eq (items_respond ..)
    · exact .tsampFailed (.inl (errNum_of_respond hr)) rfl rfl
    · exact .tsampFailed (.inr (errNum_of_respond hr)) rfl rfl
    · exact .tsampGood hk hp rfl rfl
  | hsamp cnt b0 b1 b2 =>
    obtain ⟨-, rfl⟩ | ⟨-, -, -, rfl⟩ | ⟨-, -, -, -, rfl⟩ | ⟨-, -, -, -, -, rfl⟩ | ⟨v, hp, -, rfl, hk, -, rfl⟩ :=
      execHsamp_cases h
    · exact flagMove_of_items_eq (items_respond ..)
    · exact .hsampFailed (.inl (errNum_of_respond hr)) rfl rfl
    · exact .hsampFailed (.inr (errNum_of_respond hr)) rfl rfl
    · exact flagMove_of_items_eq (items_respond ..)
    · exact .hsampGood hk hp rfl rfl
  | rdreg reg => exact flagMove_of_items_eq (items_of_rdreg h)

/-- Only a good TSAMP sets TV. -/
theorem FlagMove.tv_set (h : FlagMove s t r i) (hs : s.tv = false) (ht : t.tv = true) :
    ∃ b0 b1 b2, i = .tsamp 3 b0 b1 b2 ∧ crc8 b0 b1 = b2 ∧ s.phase = .wantT := by
  cases h with
  | tsampGood hk hp _ _ => exact ⟨_, _, _, rfl, hk, hp⟩
  | _ => simp_all

/-- Only a good HSAMP sets HV. -/
theorem FlagMove.hv_set (h : FlagMove s t r i) (hs : s.hv = false) (ht : t.hv = true) :
    ∃ b0 b1 b2, i = .hsamp 3 b0 b1 b2 ∧ crc8 b0 b1 = b2 ∧ s.phase = .wantH := by
  cases h with
  | hsampGood hk hp _ _ => exact ⟨_, _, _, rfl, hk, hp⟩
  | _ => simp_all

/-- A command that clears TV is MBEGIN or a sample that fails. -/
theorem FlagMove.tv_cleared (h : FlagMove s t r i) (hs : s.tv = true) (ht : t.tv = false) :
    i = .mbegin ∨ ∃ cnt b0 b1 b2, (i = .tsamp cnt b0 b1 b2 ∨ i = .hsamp cnt b0 b1 b2) ∧
      (errNum r = 1 ∨ errNum r = 2) := by
  cases h with
  | mbegin _ _ => exact .inl rfl
  | tsampFailed herr _ _ => exact .inr ⟨_, _, _, _, .inl rfl, herr⟩
  | hsampFailed herr _ _ => exact .inr ⟨_, _, _, _, .inr rfl, herr⟩
  | _ => simp_all

/-- A command that clears HV is MBEGIN or an HSAMP that fails. -/
theorem FlagMove.hv_cleared (h : FlagMove s t r i) (hs : s.hv = true) (ht : t.hv = false) :
    i = .mbegin ∨ ∃ cnt b0 b1 b2, i = .hsamp cnt b0 b1 b2 ∧ (errNum r = 1 ∨ errNum r = 2) := by
  cases h with
  | mbegin _ _ => exact .inl rfl
  | hsampFailed herr _ _ => exact .inr ⟨_, _, _, _, rfl, herr⟩
  | _ => simp_all

/-- A step clears both flags by a reset, leaves both, or executes a command that moves them. -/
theorem flags_of_step (h : step s = .next t) :
    (resetAsserted s = true ∧ t.tv = false ∧ t.hv = false) ∨ (t.tv = s.tv ∧ t.hv = s.hv) ∨
      ∃ w i r, Executes s w ∧ decode w = .ok i ∧ t.rsp = some r ∧ FlagMove s t r i := by
  obtain ⟨hreset, rfl⟩ | ⟨hreset, w, hcmd, hw⟩ | ⟨hreset, -, rfl⟩ := step_cases h
  · exact .inl ⟨hreset, rfl, rfl⟩
  · obtain ⟨i, hi, hexec⟩ | ⟨-, hill⟩ := execWord_cases w s
    · obtain ⟨ok, err, d, u, hresponds, -⟩ := exec_responds i s
      have ht := hexec.symm.trans hw
      obtain rfl : respond ok err d u = t := by simpa using hresponds.symm.trans ht
      exact .inr (.inr ⟨w, i, _, ⟨hreset, hcmd⟩, hi, respond_rsp .., flagMove_of_exec ht (respond_rsp ..)⟩)
    · obtain rfl : respond false .ill 0 s = t := by simpa using hill.symm.trans hw
      exact .inr (.inl ⟨rfl, rfl⟩)
  · exact .inr (.inl (flags_of_items_eq (items_portStep hreset)))

/-! ### What a command leaves -/

/-- TSAMP writes neither HV nor H_FX (R91). -/
theorem humidity_of_tsamp (h : exec (.tsamp cnt b0 b1 b2) s = .next t) : t.hv = s.hv ∧ t.hFx = s.hFx := by
  obtain ⟨-, rfl⟩ | ⟨-, -, rfl⟩ | ⟨-, -, -, rfl⟩ | ⟨-, -, -, rfl⟩ := execTsamp_cases h <;> exact ⟨rfl, rfl⟩

/-- An HSAMP that answers OK stores a humidity and writes neither TV nor T_FX (R92). -/
theorem temperature_of_hsamp_ok (h : exec (.hsamp cnt b0 b1 b2) s = .next t) (hr : t.rsp = some r)
    (hok : okNum r = 1) : t.tv = s.tv ∧ t.tFx = s.tFx := by
  obtain ⟨-, rfl⟩ | ⟨-, -, -, rfl⟩ | ⟨-, -, -, -, rfl⟩ | ⟨-, -, -, -, -, rfl⟩ | ⟨v, -, -, -, -, -, rfl⟩ :=
    execHsamp_cases h
  · exact ⟨rfl, rfl⟩
  · exact absurd ((okNum_of_respond hr).symm.trans hok) (by decide)
  · exact absurd ((okNum_of_respond hr).symm.trans hok) (by decide)
  · exact ⟨rfl, rfl⟩
  · exact ⟨rfl, rfl⟩

/-- MBEGIN leaves the same five items from every state (R90). -/
theorem items_of_mbegin (u : State) (h : exec .mbegin s = .next t) :
    ∃ v, exec .mbegin u = .next v ∧ items v = items t := by
  obtain rfl := execMbegin_cases h
  exact ⟨_, rfl, rfl⟩

/-! ### The obligations -/

/-- Settles O46: a reset clears both flags, a handshake and an illegal word leave them, and a command moves them in one
of six ways. -/
theorem flagsMoveOnlyWithTheirCommands : Obligations.FlagsMoveOnlyWithTheirCommands := by
  intro s t h
  obtain ⟨hreset, htv, hhv⟩ | ⟨htv, hhv⟩ | ⟨w, i, r, hw, hi, hr, hmove⟩ := flags_of_step h
  · exact ⟨by simp [htv], by simp [hhv], fun _ _ => .inl hreset, fun _ _ => .inl hreset⟩
  · rw [htv, hhv]
    simp +contextual
  · refine ⟨fun h0 h1 => ?_, fun h0 h1 => ?_, fun h1 h0 => .inr ⟨w, r, hw, hr, ?_⟩,
      fun h1 h0 => .inr ⟨w, r, hw, hr, ?_⟩⟩
    · obtain ⟨b0, b1, b2, rfl, hk, hp⟩ := hmove.tv_set h0 h1
      exact ⟨w, b0, b1, b2, hw, hi, hk, hp⟩
    · obtain ⟨b0, b1, b2, rfl, hk, hp⟩ := hmove.hv_set h0 h1
      exact ⟨w, b0, b1, b2, hw, hi, hk, hp⟩
    · simpa [hi] using hmove.tv_cleared h1 h0
    · simpa [hi] using hmove.hv_cleared h1 h0

/-- Settles O48: a command is one `respond` on a state with the host's side as it was, and its cases show what it
writes. -/
theorem commandsKeepTheirFrames : Obligations.CommandsKeepTheirFrames := by
  intro i s t h
  obtain ⟨ok, err, d, u, hresponds, -, -, -, hhost, htaken⟩ := exec_responds i s
  obtain rfl : respond ok err d u = t := by simpa using hresponds.symm.trans h
  refine ⟨hhost, htaken, rfl, ?_, ?_, ?_, ?_, ?_⟩
  · rintro b0 b1 b2 rfl
    exact items_of_crcchk h
  · rintro reg rfl
    exact items_of_rdreg h
  · rintro cnt b0 b1 b2 rfl
    exact humidity_of_tsamp h
  · rintro cnt b0 b1 b2 r rfl hr hok
    exact temperature_of_hsamp_ok h hr hok
  · rintro v rfl
    exact items_of_mbegin v h

end Sys2Proof.Proofs
end

section
/-! The ports (spec/70_reset_and_hazards.md rule R144, notes/assumptions/1.md and 4.md): the handshakes, the step that
executes a command, and whole sequences of commands under the two hosts of spec/20_memory.md rules R37 and R38. -/

namespace Sys2Proof.Proofs
open Sys2Proof Sys2Proof.Machine Sys2Proof.Claims

variable {s t : State} {i : Instr} {w x : CmdWord} {r : RspWord} {acts rest : List HostAction}

/-! ### The handshakes -/

theorem resetAsserted_eq_false_of_issue (h : s.host = .issue w :: rest) : resetAsserted s = false := by
  simp [resetAsserted, h]

theorem resetAsserted_eq_false_of_take (h : s.host = .take :: rest) : resetAsserted s = false := by
  simp [resetAsserted, h]

/-- A word is accepted when no response waits (R144). -/
theorem step_of_issue_accepted (hcmd : s.cmd = none) (hhost : s.host = .issue w :: rest) (hrsp : s.rsp = none) :
    step s = .next { s with cmd := some w, host := rest } := by
  rw [step_of_no_command (resetAsserted_eq_false_of_issue hhost) hcmd]
  simp [portStep, hhost, hrsp, State.accept, State.hostDone]

/-- A word waits at the port while the host takes the response before it (R144). -/
theorem step_of_issue_waiting (hcmd : s.cmd = none) (hhost : s.host = .issue w :: rest) (hrsp : s.rsp = some r) :
    step s = .next s.takeResponse := by
  rw [step_of_no_command (resetAsserted_eq_false_of_issue hhost) hcmd]
  simp [portStep, hhost, hrsp]

/-- A take hands over whatever stands at the port (R144). -/
theorem step_of_take (hcmd : s.cmd = none) (hhost : s.host = .take :: rest) :
    step s = .next { s.takeResponse with host := rest } := by
  rw [step_of_no_command (resetAsserted_eq_false_of_take hhost) hcmd]
  simp [portStep, hhost, State.hostDone]

theorem takeResponse_of_response (h : s.rsp = some r) :
    s.takeResponse = { s with rsp := none, taken := s.taken ++ [r] } := by
  simp [State.takeResponse, h]

theorem takeResponse_of_no_response (h : s.rsp = none) : s.takeResponse = s := by
  cases s
  simp_all [State.takeResponse]

/-- With no host action the block keeps its state (R133). -/
theorem step_of_no_action (hcmd : s.cmd = none) (hhost : s.host = []) : step s = .next s := by
  rw [step_of_no_command (by simp [resetAsserted, hhost]) hcmd]
  simp [portStep, hhost]

/-! ### What a command reads -/

/-- A command reads the five items alone: ports and a host of any kind leave its outcome and its response as they are
(R37, notes/assumptions/1.md and 2.md). -/
theorem exec_with_ports (c : Option CmdWord) (p : Option RspWord) (acts : List HostAction) (out : List RspWord)
    (h : exec i s = .next t) :
    exec i { s with cmd := c, rsp := p, host := acts, taken := out } =
      .next { t with host := acts, taken := out } := by
  cases i with
  | crcchk b0 b1 b2 =>
    obtain ⟨hk, rfl⟩ | ⟨hk, rfl⟩ := execCrcchk_cases h
    · rw [exec, execCrcchk, if_pos ((crcOk_iff ..).mpr hk)]
      rfl
    · rw [exec, execCrcchk, if_neg (mt (crcOk_iff ..).mp hk)]
      rfl
  | mbegin =>
    obtain rfl := execMbegin_cases h
    rfl
  | tsamp cnt b0 b1 b2 =>
    obtain ⟨hp, rfl⟩ | ⟨hp, hc, rfl⟩ | ⟨hp, hc, hk, rfl⟩ | ⟨hp, hc, hk, rfl⟩ := execTsamp_cases h
    · exact execTsamp_of_wrong_phase hp
    · exact execTsamp_of_short hp hc
    · exact execTsamp_of_mismatch hp hc hk
    · exact execTsamp_of_good hp hc hk
  | hsamp cnt b0 b1 b2 =>
    obtain ⟨hp, rfl⟩ | ⟨hp, htv, hc, rfl⟩ | ⟨hp, htv, hc, hk, rfl⟩ | ⟨hp, htv, hc, hk, hv, rfl⟩ |
      ⟨v, hp, htv, hc, hk, hv, rfl⟩ := execHsamp_cases h
    · exact execHsamp_of_wrong_phase hp
    · exact execHsamp_of_short hp htv hc
    · exact execHsamp_of_mismatch hp htv hc hk
    · exact execHsamp_of_no_temperature hp htv hc hk hv
    · exact execHsamp_of_good hp htv hc hk hv
  | rdreg reg =>
    obtain ⟨q, hq, rfl⟩ | ⟨hq, rfl⟩ := execRdreg_cases h
    · simp only [exec, execRdreg, hq]
      cases q <;> rfl
    · simp only [exec, execRdreg, hq]
      rfl

/-- So does every word, an illegal one among them. -/
theorem after_with_ports (w : CmdWord) (s : State) (c : Option CmdWord) (p : Option RspWord)
    (acts : List HostAction) (out : List RspWord) :
    after w { s with cmd := c, rsp := p, host := acts, taken := out } =
      { after w s with host := acts, taken := out } := by
  obtain ⟨i, hi, hexec⟩ | ⟨⟨e, he⟩, -⟩ := execWord_cases w s
  · have h := exec_with_ports c p acts out (hexec.symm.trans (execWord_eq_after w s))
    simp only [after, execWord, hi] at h ⊢
    simp [h]
  · simp only [after, execWord, he]
    rfl

/-- Executing a word leaves its response at the port and the host's side as it was (R50, R144). -/
theorem after_responds (w : CmdWord) (s : State) :
    (after w s).cmd = none ∧ (∃ r, (after w s).rsp = some r) ∧ (after w s).host = s.host ∧
      (after w s).taken = s.taken := by
  have hafter := execWord_eq_after w s
  obtain ⟨i, -, hexec⟩ | ⟨-, hill⟩ := execWord_cases w s
  · obtain ⟨ok, err, d, u, hnext, -, -, -, hhost, htaken⟩ := exec_responds i s
    have hresponds : after w s = respond ok err d u := by simpa using hafter.symm.trans (hexec.trans hnext)
    rw [hresponds]
    exact ⟨rfl, ⟨_, rfl⟩, hhost, htaken⟩
  · have hresponds : after w s = respond false .ill 0 s := by simpa using hafter.symm.trans hill
    rw [hresponds]
    exact ⟨rfl, ⟨_, rfl⟩, rfl, rfl⟩

theorem after_with_host (w : CmdWord) (s : State) (c : Option CmdWord) (acts : List HostAction) :
    after w { s with cmd := c, host := acts } = { after w s with host := acts } := by
  obtain ⟨-, -, -, htaken⟩ := after_responds w s
  refine (after_with_ports w s c s.rsp acts s.taken).trans ?_
  rw [← htaken]

/-! ### Commands and their responses in order -/

/-- The state after a word depends on the five items before it, as far as the five items go (R37). -/
theorem items_after_congr (w : CmdWord) (h : items t = items s) : items (after w t) = items (after w s) := by
  have hports : t = { s with cmd := t.cmd, rsp := t.rsp, host := t.host, taken := t.taken } := by
    cases t
    simpa [items] using h
  rw [hports, after_with_ports]
  rfl

theorem items_transactAll (ws : List CmdWord) (h : items t = items s) :
    items (transactAll ws t) = items (afterAll ws s) := by
  induction ws generalizing s t with
  | nil => exact h
  | cons w ws ih => exact ih (t := transact w t) (s := after w s) (items_after_congr w h)

/-- A command and the taking of its response leave a free block and one response more (R144). -/
theorem transact_free (w : CmdWord) (s : State) :
    (transact w s).cmd = none ∧ (transact w s).rsp = none ∧
      (transact w s).taken.length = s.taken.length + 1 := by
  obtain ⟨hcmd, ⟨r, hr⟩, -, htaken⟩ := after_responds w s
  exact ⟨hcmd, rfl, by simp [transact, hr, htaken]⟩

theorem length_taken_transactAll (ws : List CmdWord) (s : State) :
    (transactAll ws s).taken.length = s.taken.length + ws.length := by
  induction ws generalizing s with
  | nil => rfl
  | cons w ws ih =>
    obtain ⟨-, -, hlength⟩ := transact_free w s
    have htail := ih (transact w s)
    change (transactAll ws (transact w s)).taken.length = _
    rw [htail, hlength, List.length_cons]
    omega

/-! ### The two hosts -/

theorem steps_succ_of_step {n : Nat} (h : step s = .next t) : steps (n + 1) s = steps n t := by
  rw [steps, h]

/-- From a free block two steps accept a word and execute it (R144). -/
theorem steps_of_issue (n : Nat) (hcmd : s.cmd = none) (hrsp : s.rsp = none)
    (hacts : ∀ u : State, u.host = acts → resetAsserted u = false) :
    steps (n + 2) { s with host := .issue w :: acts } = steps n { after w s with host := acts } := by
  have haccept := step_of_issue_accepted (s := { s with host := .issue w :: acts }) hcmd rfl hrsp
  have hexecute : step { s with cmd := some w, host := acts } = .next { after w s with host := acts } := by
    rw [step_of_executes ⟨hacts _ rfl, rfl⟩, execWord_eq_after, after_with_host]
  rw [steps_succ_of_step haccept, steps_succ_of_step hexecute]

/-- A command of the waiting host: issue, execution, take (R38). -/
theorem steps_of_issue_take (n : Nat) (hcmd : s.cmd = none) (hrsp : s.rsp = none) :
    steps (n + 3) { s with host := .issue w :: .take :: rest } = steps n { transact w s with host := rest } := by
  obtain ⟨hdone, -⟩ := after_responds w s
  rw [steps_of_issue (n + 1) hcmd hrsp fun _ => resetAsserted_eq_false_of_take]
  exact steps_succ_of_step (step_of_take hdone rfl)

/-- A command of the eager host: issue, execution, and a take for the sake of the word that waits (R38). -/
theorem steps_of_issue_issue (n : Nat) (hcmd : s.cmd = none) (hrsp : s.rsp = none) :
    steps (n + 3) { s with host := .issue w :: .issue x :: rest } =
      steps n { transact w s with host := .issue x :: rest } := by
  obtain ⟨hdone, ⟨r, hr⟩, -⟩ := after_responds w s
  rw [steps_of_issue (n + 1) hcmd hrsp fun _ => resetAsserted_eq_false_of_issue]
  exact steps_succ_of_step (step_of_issue_waiting hdone rfl hr)

/-- The waiting host brings a free block to the fold over its words, three steps a command (R37). -/
theorem steps_waitingHost (ws : List CmdWord) (rest : List HostAction) (hcmd : s.cmd = none) (hrsp : s.rsp = none) :
    steps (3 * ws.length) { s with host := waitingHost ws ++ rest } =
      .next { transactAll ws s with host := rest } := by
  induction ws generalizing s with
  | nil => rfl
  | cons w ws ih =>
    obtain ⟨hcmd', hrsp', -⟩ := transact_free w s
    exact (steps_of_issue_take _ hcmd hrsp).trans (ih hcmd' hrsp')

/-- The eager host brings a free block to the same state in as many steps (R38). -/
theorem steps_eagerHost (w : CmdWord) (ws : List CmdWord) (rest : List HostAction) (hcmd : s.cmd = none)
    (hrsp : s.rsp = none) :
    steps (3 * (w :: ws).length) { s with host := eagerHost (w :: ws) ++ rest } =
      .next { transactAll (w :: ws) s with host := rest } := by
  induction ws generalizing w s with
  | nil => exact steps_of_issue_take 0 hcmd hrsp
  | cons x ws ih =>
    obtain ⟨hcmd', hrsp', -⟩ := transact_free w s
    exact (steps_of_issue_issue _ hcmd hrsp).trans (ih x hcmd' hrsp')

/-! ### The obligations -/

/-- Settles O3: reset drives the step and empties the response port without a taking. -/
theorem resetDropsAWaitingResponse : Obligations.ResetDropsAWaitingResponse :=
  fun _ _ rest hhost _ => ⟨_, step_of_reset (resetAsserted_iff.mpr ⟨rest, hhost⟩), rfl, rfl⟩

/-- Settles O4: the three handshakes. -/
theorem portsHoldOneCommandAtATime : Obligations.PortsHoldOneCommandAtATime := by
  refine fun s w rest hcmd => ⟨step_of_issue_accepted hcmd, fun r hhost hrsp => ?_, fun r hhost hrsp => ?_⟩
  · rw [step_of_issue_waiting hcmd hhost hrsp, takeResponse_of_response hrsp]
  · rw [step_of_take hcmd hhost, takeResponse_of_response hrsp]

/-- Settles O5: no action moves nothing, and a take that meets no response takes nothing. -/
theorem idleBlockKeepsItsState : Obligations.IdleBlockKeepsItsState := by
  refine fun s rest hcmd => ⟨step_of_no_action hcmd, fun hhost hrsp => ?_⟩
  rw [step_of_take hcmd hhost, takeResponse_of_no_response hrsp]

/-- Settles O6: with no reset asserted the step executes the word, which is its command's `exec`. -/
theorem stepRunsTheDecodedCommand : Obligations.StepRunsTheDecodedCommand := by
  intro s w i hw hi
  rw [step_of_executes hw, execWord, hi]

/-- Settles O54: each command takes three steps of the waiting host to its transaction, and a command reads the five
items alone, so that taking the responses between does not matter. -/
theorem commandsTakeEffectInIssueOrder : Obligations.CommandsTakeEffectInIssueOrder := by
  intro ws s rest hcmd hrsp hhost
  have hsteps := steps_waitingHost ws rest hcmd hrsp
  rw [← hhost] at hsteps
  exact ⟨hsteps, items_transactAll ws rfl, length_taken_transactAll ws s⟩

/-- Settles O55: both hosts reach the fold of the transactions. -/
theorem waitingForResponsesChangesNothing : Obligations.WaitingForResponsesChangesNothing := by
  intro ws s rest hne hcmd hrsp
  obtain ⟨w, ws, rfl⟩ := List.exists_cons_of_ne_nil hne
  rw [steps_eagerHost w ws rest hcmd hrsp, steps_waitingHost (w :: ws) rest hcmd hrsp]

end Sys2Proof.Proofs
end
